-- ==== Sys2Proof/Word.lean ====
section
/-! DEFINITION. The block's plain data: bytes, flash offsets and port names (spec/00_scope.md section 5, rule R4). -/

namespace Sys2Proof

/-- A byte: an unsigned number 0..255, bit 0 the least significant (00_scope section 5). -/
abbrev Byte := BitVec 8

/-- A flash offset: "a 16-bit unsigned address into flash memory" (10_state R12). -/
abbrev Offset := BitVec 16

/-- A port name: opaque to the block, which only hands it to the platform (00_scope R4).
Two names are equal when their tags are; nothing else is known of a name. -/
structure PortName where
  tag : Nat
deriving DecidableEq, Repr

end Sys2Proof
end

