-- ==== Sys2Proof/Config.lean ====
section
/-! DEFINITION. The block's fixed constants (00_scope R3, 10_state R20) and the environment's free answers
(00_scope R4, 42_transport R113). -/

namespace Sys2Proof

/-- What the environment answers to a write: the whole frame was handed to the line, or the write broke after an
unknown number of bytes (42_transport R112; `sent` is cut to the bound 0..TXLEN-1 where it is used). -/
inductive WriteAnswer where
  | complete
  | broken (sent : Nat)
deriving DecidableEq, Repr, Inhabited

/-- The serial character format: data bits, parity and stop bits (00_scope R3, 30_encoding R77). -/
structure LineFormat where
  dataBits : Nat
  parity   : Bool
  stopBits : Nat
deriving DecidableEq, Repr

/-- The settings an open applies to the port (10_state R20): line rate, character format, read time-out in seconds. -/
structure SerialSettings where
  baud        : Nat
  format      : LineFormat
  readTimeout : Nat
deriving DecidableEq, Repr

/-- What the one second of the read time-out spans (42_transport R115): an open parameter that no rule of the model uses. -/
inductive TimeoutScope where
  | wholeRead
  | perWait
deriving DecidableEq, Repr, Inhabited

namespace Config

/-- Payload capacity of a write frame and of a read-data block (R3 `CHUNK`). -/
abbrev chunk : Nat := 128
/-- Length of an erase frame (R3 `LEN_ERASE`). -/
abbrev lenErase : Nat := 5
/-- Length of a write frame (R3 `LEN_WRITE`). -/
abbrev lenWrite : Nat := 132
/-- Length of a read frame (R3 `LEN_READ`). -/
abbrev lenRead : Nat := 4
/-- Length of an acknowledgement (R3 `LEN_ACK`). -/
abbrev lenAck : Nat := 1
/-- Length of a read-data block (R3 `LEN_DATA`). -/
abbrev lenData : Nat := 132
/-- Byte 0 of an erase frame (R3 `OP_ERASE`). -/
abbrev opErase : Byte := 0x39
/-- Byte 0 of a write frame (R3 `OP_WRITE`). -/
abbrev opWrite : Byte := 0x57
/-- Byte 0 of a read frame (R3 `OP_READ`). -/
abbrev opRead : Byte := 0x52
/-- Byte 3 of an erase frame (R3 `ERASE_PARAM`). -/
abbrev eraseParam : Byte := 0x55
/-- Byte 4 of an erase frame: the sum of the four bytes before it (30_encoding R62; 92 D6, log 15). -/
abbrev eraseChecksum : Byte := 0x8E
/-- The one acknowledgement value that means success (R3 `ACK`). -/
abbrev ack : Byte := 0x06
/-- Byte 1 of a read-data block that means "no more data" (R3 `SENTINEL`). -/
abbrev sentinel : Byte := 0xFF

/-- The hardwired serial settings (R3 `BAUD`, `LINE_FORMAT`, `READ_TIMEOUT`; 10_state R20; 8-N-1 by 92 D10, log 28). -/
def serial : SerialSettings :=
  { baud := 115200, format := { dataBits := 8, parity := false, stopBits := 1 }, readTimeout := 1 }

/-- FREE VALUE (log 2): does the `k`-th draw find the port openable (42_transport R111 `open_ok`). -/
opaque freeOpen : Nat → Bool
/-- FREE VALUE (log 2, 4): the environment's answer to the write that is the `k`-th draw (R112 `write_ok`). -/
opaque freeWrite : Nat → WriteAnswer
/-- FREE VALUE (log 2, 3): the bytes that arrive within the time-out of the read that is the `k`-th draw (R114 `rx`). -/
opaque freeArrival : Nat → List Byte
/-- FREE VALUE (log 25): what the read time-out spans (R115); no step reads it. -/
opaque timeoutScope : TimeoutScope

end Config

end Sys2Proof
end

