-- ==== Sys2Proof/Machine/Checksum.lean ====
section
/-! DEFINITION. The wrapping sum as a pure function of a byte sequence (40_checksum R92, R98). -/

namespace Sys2Proof

/-- The 8-bit wrapping sum of a byte sequence (R92). -/
def sum8 (s : List Byte) : Byte := s.foldl (fun acc b => acc + b) 0

/-- The bytes that a checksum covers: all but the last (R65, R93). -/
def covered (frame : List Byte) : List Byte := frame.dropLast

/-- A frame is closed when its last byte is the sum of the bytes before it (R65, R94); an empty sequence is not. -/
def closed (frame : List Byte) : Bool := frame.getLast? == some (sum8 (covered frame))

end Sys2Proof
end

