-- ==== Sys2Proof/Machine/Operands.lean ====
section
/-! DEFINITION. Operand assembly: the offset's two bytes, the chunk length, the payload and the fixed byte indices of
the frames (30_encoding R62 to R69, 20_memory R44, R45, R48). -/

namespace Sys2Proof

/-- `n` bytes of zero (00_scope section 5). -/
def zeros (n : Nat) : List Byte := List.replicate n 0

/-- `OFS[15:8]`, frame byte 1 (R44, R66). -/
def offsetHi (o : Offset) : Byte := o.extractLsb' 8 8

/-- `OFS[7:0]`, frame byte 2 (R44, R66). -/
def offsetLo (o : Offset) : Byte := o.extractLsb' 0 8

/-- The offset whose high and low bytes are given: big-endian (R44). -/
def offsetOf (hi lo : Byte) : Offset := hi ++ lo

/-- `min(128, FW_LEN - OFS)` on natural numbers (10_state R13, 41_frame_builder R102 (e)). -/
def chunkLength (offset : Offset) (fwLen : Nat) : Nat := min Config.chunk (fwLen - offset.toNat)

theorem chunkLength_lt (offset : Offset) (fwLen : Nat) : chunkLength offset fwLen < 129 :=
  Nat.lt_succ_of_le (Nat.min_le_left _ _)

/-- The real bytes of a write frame's payload: `FW[OFS .. OFS+CLEN)` (R67, 20_memory R41). -/
def chunkBytes (offset : Offset) (firmware : List Byte) : List Byte :=
  (firmware.drop offset.toNat).take (chunkLength offset firmware.length)

/-- Store the bytes of `bs` at consecutive indices of `frame` from `i` upward, ascending (20_memory R49). -/
def putBytes (frame : List Byte) (i : Nat) : List Byte → List Byte
  | [] => frame
  | b :: bs => putBytes (frame.set i b) (i + 1) bs

/-- The erase frame with its checksum byte still zero (R101: fresh zeros, opcode at 0, parameter at 3). -/
def eraseFields : List Byte :=
  ((zeros Config.lenErase).set 0 Config.opErase).set 3 Config.eraseParam

/-- The write frame with its checksum byte still zero (R102). -/
def writeFields (offset : Offset) (firmware : List Byte) : List Byte :=
  let header :=
    (((zeros Config.lenWrite).set 0 Config.opWrite).set 1 (offsetHi offset)).set 2 (offsetLo offset)
  putBytes header 3 (chunkBytes offset firmware)

/-- The read frame with its checksum byte still zero (R103). -/
def readFields (offset : Offset) : List Byte :=
  (((zeros Config.lenRead).set 0 Config.opRead).set 1 (offsetHi offset)).set 2 (offsetLo offset)

/-- A write request's bytes as they stand on the wire (R63). -/
def writeFrameBytes (offset : Offset) (payload : List Byte) (checksum : Byte) : List Byte :=
  Config.opWrite :: offsetHi offset :: offsetLo offset :: (payload ++ [checksum])

/-- A read request's bytes as they stand on the wire (R64). -/
def readFrameBytes (offset : Offset) (checksum : Byte) : List Byte :=
  [Config.opRead, offsetHi offset, offsetLo offset, checksum]

/-- The erase request as it stands on the wire: a constant (R62). -/
def eraseFrame : List Byte := [Config.opErase, 0, 0, Config.eraseParam, Config.eraseChecksum]

/-- A read-data block's bytes as they stand on the wire (R69). -/
def dataFrameBytes (echo0 flag echo2 : Byte) (payload : List Byte) (checksum : Byte) : List Byte :=
  echo0 :: flag :: echo2 :: (payload ++ [checksum])

/-- `block[3..131)`: the payload of a read-data block, indices 3 to 130 (R69, 43_response R126 (d)). -/
def payloadOf (block : List Byte) : List Byte := (block.drop 3).take Config.chunk

/-- The byte sequences that are a request of the block: the constant erase frame (R62, R73, U1), or `0x57` with 132 bytes,
or `0x52` with 4 (R63, R64, R71). No other opcode is defined (R74, U2). The checksum byte of the last two is not looked
at here (log 14). -/
def isRequest (frame : List Byte) : Bool :=
  frame == eraseFrame ||
  (frame[0]? == some Config.opWrite && frame.length == Config.lenWrite) ||
  (frame[0]? == some Config.opRead && frame.length == Config.lenRead)

/-- The response length that a request awaits, by its kind (42_transport R118). -/
def awaited (frame : List Byte) : Nat :=
  if frame[0]? = some Config.opRead then Config.lenData else Config.lenAck

/-- The lengths a request frame can have (10_state R25, 20_memory R50). -/
def requestLengthOk (n : Nat) : Bool :=
  n == Config.lenErase || n == Config.lenWrite || n == Config.lenRead

/-- The lengths a response can have (10_state R26, 42_transport R118). -/
def responseLengthOk (n : Nat) : Bool := n == Config.lenAck || n == Config.lenData

/-- The length of the request frame that an opcode announces (30_encoding R71, R72). -/
def requestLength (opcode : Byte) : Option Nat :=
  if opcode = Config.opErase then some Config.lenErase
  else if opcode = Config.opWrite then some Config.lenWrite
  else if opcode = Config.opRead then some Config.lenRead
  else none

end Sys2Proof
end

