-- ==== Sys2Proof/Machine/Flags.lean ====
section
/-! DEFINITION. The three flags as functions of the bytes they look at (10_state R16 to R19). The block has no carry,
overflow, zero or sign flag (R19). -/

namespace Sys2Proof

/-- `MATCH`: the accumulated sum equals the frame's last byte (40_checksum R94). -/
def matchOf (acc : Byte) (frame : List Byte) : Bool := frame.getLast? == some acc

/-- `EOD`: byte 1 of the block is the sentinel (10_state R17, 43_response R126). -/
def eodOf (block : List Byte) : Bool := block[1]? == some Config.sentinel

/-- `ACKF`: the acknowledgement, the first byte of the response, is `0x06` (10_state R18, 43_response R125). -/
def ackOf (response : List Byte) : Bool := response[0]? == some Config.ack

end Sys2Proof
end

