-- ==== Sys2Proof/Syntax.lean ====
section
/-! DEFINITION. The instructions: one constructor for each row of spec/opcode_table.json (30_encoding R78 to R80). -/

namespace Sys2Proof

/-- The handle that `open` returns: at most one is held at a time, so it carries nothing (10_state R21; log 23). -/
inductive Handle where
  | current
deriving DecidableEq, Repr

/-- The checksum field of an erase frame: it has one value, `0x8E`, as the frame has no variable field (30_encoding R62). -/
inductive EraseChecksum where
  | fixed
deriving DecidableEq, Repr

/-- Who sends a wire frame to whom (30_encoding R60, R80 `direction`). -/
inductive Direction where
  | blockToDevice
  | deviceToBlock
deriving DecidableEq, Repr

/-- An instruction of the block: a wire frame kind, an operation, or the pseudo-operation. -/
inductive Instr where
  /-- `ERASE`, format `F_ERASE`: a constant frame with no variable field (R62). -/
  | frameErase (checksum : EraseChecksum)
  /-- `WRITE`, format `F_WRITE` (R63). -/
  | frameWrite (offset : Offset) (payload : List Byte) (checksum : Byte)
  /-- `READ`, format `F_READ` (R64). -/
  | frameRead (offset : Offset) (checksum : Byte)
  /-- `ACK`, format `F_ACK` with byte `0x06` (R68). -/
  | frameAck
  /-- `NACK`, format `F_ACK` with any other byte (R68). -/
  | frameNack (ack : Byte)
  /-- `EOD`, format `F_DATA` with the sentinel in byte 1 (R69, R70). -/
  | frameEod (echo0 echo2 : Byte) (payload : List Byte) (checksum : Byte)
  /-- `DATA`, format `F_DATA` without the sentinel (R69). -/
  | frameData (echo0 flag echo2 : Byte) (payload : List Byte) (checksum : Byte)
  /-- `CSUM.CLR` (R90). -/
  | csumClr
  /-- `CSUM.ADD b` (R91). -/
  | csumAdd (b : Byte)
  /-- `compute(frame)` (R93). -/
  | compute (frame : List Byte)
  /-- `verify(frame)` (R94). -/
  | verify (frame : List Byte)
  /-- `build_erase()` (R101). -/
  | buildErase
  /-- `build_write_chunk(offset, firmware_bytes)` (R102). -/
  | buildWriteChunk (offset : Offset) (firmware : List Byte)
  /-- `build_read_chunk(offset)` (R103). -/
  | buildReadChunk (offset : Offset)
  /-- `open(port)` (R111). -/
  | openPort (port : PortName)
  /-- `write_all(handle, frame)` (R112). -/
  | writeAll (handle : Handle) (frame : List Byte)
  /-- `read_exact(handle, n)` (R114). -/
  | readExact (handle : Handle) (n : Nat)
  /-- `close(handle)` (R117). -/
  | closePort (handle : Handle)
  /-- `exchange(port, frame, n)` (R119). -/
  | exchange (port : PortName) (frame : List Byte) (n : Nat)
  /-- `interpret_ack(r)` (R125). -/
  | interpretAck (r : Byte)
  /-- `interpret_read(block)` (R126). -/
  | interpretRead (block : List Byte)
  /-- `erase(port)` (R130). -/
  | erase (port : PortName)
  /-- `write_chunk(port, offset, firmware_bytes)` (R131). -/
  | writeChunk (port : PortName) (offset : Offset) (firmware : List Byte)
  /-- `read_chunk(port, offset)` (R132). -/
  | readChunk (port : PortName) (offset : Offset)
  /-- `with_checksum_applied(b)`, the pseudo-operation (R79). -/
  | withChecksumApplied (b : List Byte)
deriving DecidableEq, Repr

end Sys2Proof
end

