-- ==== Sys2Proof/WellFormed.lean ====
section
/-! DEFINITION. Which instructions are well formed: the domain each operation's rule gives its operands; and which
request frames carry their right checksum (30_encoding R65). -/

namespace Sys2Proof

/-- The operands an instruction's rule and encoding admit: a payload has 128 bytes (R63, R69), a `NACK` or `DATA` frame
is of its kind (R80), a checksummed buffer has at least one byte (40_checksum R93, R94), a frame to send is a request
(42_transport R112, R119), the response length is that of the frame's kind (R118), and a block has 132 bytes (R126). -/
def Instr.wf : Instr → Bool
  | .frameErase _ => true
  | .frameWrite _ p _ => p.length == Config.chunk
  | .frameRead _ _ => true
  | .frameAck => true
  | .frameNack r => r != Config.ack
  | .frameEod _ _ p _ => p.length == Config.chunk
  | .frameData _ flag _ p _ => flag != Config.sentinel && p.length == Config.chunk
  | .csumClr => true
  | .csumAdd _ => true
  | .compute f => !f.isEmpty
  | .verify f => !f.isEmpty
  | .buildErase => true
  | .buildWriteChunk _ _ => true
  | .buildReadChunk _ => true
  | .openPort _ => true
  | .writeAll _ f => isRequest f
  | .readExact _ n => responseLengthOk n
  | .closePort _ => true
  | .exchange _ f n => isRequest f && n == awaited f
  | .interpretAck _ => true
  | .interpretRead b => b.length == Config.lenData
  | .erase _ => true
  | .writeChunk _ _ _ => true
  | .readChunk _ _ => true
  | .withChecksumApplied b => !b.isEmpty

/-- A request frame's checksum byte is the sum of the bytes before it, as the block builds every request (R65, 41 R104).
The erase frame is a constant (R62), and the other instructions carry no request frame. -/
def Instr.checksummed : Instr → Bool
  | .frameErase _ => true
  | .frameWrite o p ck => closed (writeFrameBytes o p ck)
  | .frameRead o ck => closed (readFrameBytes o ck)
  | .frameAck | .frameNack _ | .frameEod _ _ _ _ | .frameData _ _ _ _ _ => true
  | .csumClr | .csumAdd _ | .compute _ | .verify _ => true
  | .buildErase | .buildWriteChunk _ _ | .buildReadChunk _ => true
  | .openPort _ | .writeAll _ _ | .readExact _ _ | .closePort _ | .exchange _ _ _ => true
  | .interpretAck _ | .interpretRead _ => true
  | .erase _ | .writeChunk _ _ _ | .readChunk _ _ => true
  | .withChecksumApplied _ => true

end Sys2Proof
end

