-- ==== Sys2Proof/Decode.lean ====
section
/-! DEFINITION. The decoder of wire frames, total on any bytes and rejecting by name (30_encoding R60 to R64, R68 to
R76, R80), the encoder beside it, and the reading of a table word. -/

namespace Sys2Proof

/-- Why a byte sequence is no frame. -/
inductive DecodeError where
  /-- No byte at all: R60 knows no frame of length 0. -/
  | empty
  /-- A request opcode other than `0x39`, `0x57`, `0x52` (R74, U2: refuse). -/
  | unknownOpcode (opcode : Byte)
  /-- The sequence has not the length its opcode announces, or a response has neither 1 nor 132 bytes (R60, R61, R71). -/
  | wrongLength (length : Nat)
  /-- Bytes 1 to 4 of an erase frame are not `00 00 55 8E` (R62, R73, U1, U8: refuse). -/
  | eraseFixedBytes (rsv1 rsv2 param checksum : Byte)
deriving DecidableEq, Repr

/-- The instruction a request frame stands for, by byte 0 (R71, R72), its length and its fixed bytes (R80). -/
def decodeRequest : List Byte → Except DecodeError Instr
  | [] => .error .empty
  | op :: rest =>
    if op = Config.opErase then
      match rest with
      | [r1, r2, p, ck] =>
        if r1 = 0 ∧ r2 = 0 ∧ p = Config.eraseParam ∧ ck = Config.eraseChecksum then .ok (.frameErase .fixed)
        else .error (.eraseFixedBytes r1 r2 p ck)
      | _ => .error (.wrongLength (rest.length + 1))
    else if op = Config.opWrite then
      match rest with
      | hi :: lo :: tail =>
        if tail.length = Config.chunk + 1 then
          .ok (.frameWrite (offsetOf hi lo) tail.dropLast (tail.getLastD 0))
        else .error (.wrongLength (rest.length + 1))
      | _ => .error (.wrongLength (rest.length + 1))
    else if op = Config.opRead then
      match rest with
      | [hi, lo, ck] => .ok (.frameRead (offsetOf hi lo) ck)
      | _ => .error (.wrongLength (rest.length + 1))
    else .error (.unknownOpcode op)

/-- The instruction a response stands for, by its length (R61) and the byte that splits each format in two (R68, R70, R80). -/
def decodeResponse : List Byte → Except DecodeError Instr
  | [] => .error .empty
  | [r] => if r = Config.ack then .ok .frameAck else .ok (.frameNack r)
  | e0 :: flag :: tail =>
    match tail with
    | [] => .error (.wrongLength 2)
    | e2 :: body =>
      if body.length = Config.chunk + 1 then
        if flag = Config.sentinel then .ok (.frameEod e0 e2 body.dropLast (body.getLastD 0))
        else .ok (.frameData e0 flag e2 body.dropLast (body.getLastD 0))
      else .error (.wrongLength (body.length + 3))

/-- Decode a frame that travels in a given direction (R60). -/
def decodeFrame : Direction → List Byte → Except DecodeError Instr
  | .blockToDevice, bs => decodeRequest bs
  | .deviceToBlock, bs => decodeResponse bs

/-- Take one request off a stream of sent bytes: byte 0 tells the length (R72), the rest follows. -/
def takeRequest : List Byte → Except DecodeError (Instr × List Byte)
  | [] => .error .empty
  | op :: rest =>
    match requestLength op with
    | none => .error (.unknownOpcode op)
    | some n =>
      match decodeRequest ((op :: rest).take n) with
      | .ok i => .ok (i, (op :: rest).drop n)
      | .error e => .error e

/-- The bytes of a frame instruction and their direction; an operation has no bit pattern (R80, D23). -/
def encode : Instr → Option (Direction × List Byte)
  | .frameErase _ => some (.blockToDevice, eraseFrame)
  | .frameWrite o p ck => some (.blockToDevice, writeFrameBytes o p ck)
  | .frameRead o ck => some (.blockToDevice, readFrameBytes o ck)
  | .frameAck => some (.deviceToBlock, [Config.ack])
  | .frameNack r => some (.deviceToBlock, [r])
  | .frameEod e0 e2 p ck => some (.deviceToBlock, dataFrameBytes e0 Config.sentinel e2 p ck)
  | .frameData e0 f e2 p ck => some (.deviceToBlock, dataFrameBytes e0 f e2 p ck)
  | .csumClr => none
  | .csumAdd _ => none
  | .compute _ => none
  | .verify _ => none
  | .buildErase => none
  | .buildWriteChunk _ _ => none
  | .buildReadChunk _ => none
  | .openPort _ => none
  | .writeAll _ _ => none
  | .readExact _ _ => none
  | .closePort _ => none
  | .exchange _ _ _ => none
  | .interpretAck _ => none
  | .interpretRead _ => none
  | .erase _ => none
  | .writeChunk _ _ _ => none
  | .readChunk _ _ => none
  | .withChecksumApplied _ => none

/-- The low `n` bytes of a number, the least significant byte first: byte 0 of a frame is the table word's low byte. -/
def bytesOfNat : Nat → Nat → List Byte
  | 0, _ => []
  | n + 1, w => BitVec.ofNat 8 w :: bytesOfNat n (w / 256)

/-- The request a table word could stand for: the bytes of the length its first byte announces, zero above `nbits`. A word
that holds the ERASE row's `match`, bytes 0 to 3, and nothing above them is completed by the row's `fixed_frame`: that
frame has no variable field, so its fifth byte is no operand that could be zero (R62, R80; log 22). -/
def tableRequest (nbits w : Nat) : List Byte :=
  if w % 2 ^ nbits = 0x55000039 then eraseFrame
  else bytesOfNat ((requestLength (BitVec.ofNat 8 w)).getD 0) (w % 2 ^ nbits)

/-- The response a table word could stand for: one byte is an acknowledgement, more are a read-data block. -/
def tableResponse (nbits w : Nat) : List Byte :=
  bytesOfNat (if nbits ≤ 8 then Config.lenAck else Config.lenData) (w % 2 ^ nbits)

/-- The frame a table word stands for. A word carries no direction, so the model tries the request that its first byte
announces, when the word fits that length and the decoder takes it, and reads it as a response otherwise (log 22). -/
def tableFrame (nbits w : Nat) : Direction × List Byte :=
  if nbits ≤ 8 * (tableRequest nbits w).length then
    match decodeRequest (tableRequest nbits w) with
    | .ok _ => (.blockToDevice, tableRequest nbits w)
    | .error _ => (.deviceToBlock, tableResponse nbits w)
  else (.deviceToBlock, tableResponse nbits w)

/-- The instruction the decoder reads from a table word (the host's question). -/
def decodeTableWord (nbits w : Nat) : Option Instr :=
  match decodeFrame (tableFrame nbits w).1 (tableFrame nbits w).2 with
  | .ok i => some i
  | .error _ => none

end Sys2Proof
end

