-- ==== Sys2Proof/Machine/State.lean ====
section
/-! DEFINITION. The machine's state (10_state), the reasons a step can stop, and the state after reset (10_state R29). -/

namespace Sys2Proof.Machine

/-- The command kind of a call (10_state R14): `K_ERASE`, `K_WRITE`, `K_READ`. -/
inductive Kind where
  | erase
  | write
  | read
deriving DecidableEq, Repr

/-- The exchange sequencer's six phases (10_state R22). -/
inductive Phase where
  | idle
  | build
  | opening
  | sending
  | receiving
  | decoding
deriving DecidableEq, Repr

/-- Whether a port handle is held (10_state R21). -/
inductive PortState where
  | closed
  | opened
deriving DecidableEq, Repr

/-- The four faults of a call and what each records (60_exceptions R140). They are TAKEN: a call that meets one ends in
a next state whose RESULT is the fault (R152). `openFailed` records the port name, which a wire frame does not name. -/
inductive CallFault where
  /-- Raised by `open` (R141). -/
  | openFailed (port : Option PortName)
  /-- Raised by `write_all` (R142). -/
  | writeFailed
  /-- Raised by `read_exact`; records the expected length (R143). -/
  | readTimeout (expected : Nat)
  /-- Raised by `build_write_chunk`; records the offset and the image length (R144). -/
  | indexOutOfRange (offset : Offset) (fwLen : Nat)
deriving DecidableEq, Repr

/-- What a call returns (10_state R24): `Ack(b)`, `Data(None)`, `Data(Some(p))` or `Fault(f)`. -/
inductive Result where
  | ack (b : Bool)
  | data (d : Option (List Byte))
  | fault (f : CallFault)
deriving DecidableEq, Repr

/-- What the last operation yielded to its invoker: `return v` of the operation's pseudocode (00_scope section 6).
MODEL'S OWN (log 19). -/
inductive Yield where
  /-- The operation returns nothing (`CSUM.CLR`, `CSUM.ADD`, `write_all`, `close`). -/
  | nothing
  /-- A truth value (`verify`, `interpret_ack`). -/
  | truth (b : Bool)
  /-- A byte sequence (`build_*`, `with_checksum_applied`, `read_exact`, `exchange`). -/
  | bytes (bs : List Byte)
  /-- The caller's buffer as `compute` left it: it "mutates the buffer in place" (R93). -/
  | buffer (bs : List Byte)
  /-- The handle of an open port (`open`). -/
  | handle (h : Handle)
  /-- An optional block (`interpret_read`). -/
  | block (d : Option (List Byte))
  /-- A command's result. -/
  | result (r : Result)
deriving DecidableEq, Repr

/-- A buffer's bytes: (index, byte) cells with strictly rising indices. An index not listed holds no value (10_state
R25, R26, R29), so any byte that is listed is a value. -/
abbrev Memory := List Host.Cell

/-- What the outside world has queued for the block (log 1): an operation invoked by name (R78, D1), or the bytes of a
frame that travels in a given direction. -/
inductive Pending where
  | invoke (i : Instr)
  | frame (d : Direction) (bytes : List Byte)
deriving DecidableEq, Repr

/-- The environment's answers (00_scope R4 `ENV`, 42_transport R113). MODEL'S OWN (log 2): the answers a test bench has
scripted, oldest first, and how many draws have been made; a draw with no scripted answer left is a free value. -/
structure Env where
  opens    : List Bool
  writes   : List WriteAnswer
  arrivals : List (List Byte)
  drawn    : Nat
deriving DecidableEq, Repr

/-- The whole machine. The fields down to `rxs` are the spec's (10_state, 20_memory R40); `pending`, `env`, `ret` and
`trail` are the model's own (log 1, 2, 8, 19). -/
structure State where
  /-- `ACC`, the checksum accumulator (R27). -/
  acc      : Byte
  /-- `OFS`, the offset operand latch (R12). -/
  ofs      : Offset
  /-- `CLEN`, the chunk-length latch, 0 to 128 (R13). -/
  clen     : Fin 129
  /-- `KIND`, the command-kind latch (R14). -/
  kind     : Kind
  /-- `TXBUF`, the request frame buffer (R25). -/
  txbuf    : Memory
  /-- `TXLEN`, one of 4, 5, 132 (R25). -/
  txlen    : Nat
  /-- `RXBUF`, the response buffer (R26). -/
  rxbuf    : Memory
  /-- `RXLEN`, one of 1, 132 (R26). -/
  rxlen    : Nat
  /-- `MATCH`, the result of the most recent `verify` (R16). -/
  matchF   : Bool
  /-- `EOD`: byte 1 of the read-data block equalled the sentinel (R17). -/
  eodF     : Bool
  /-- `ACKF`: the acknowledgement byte equalled `0x06` (R18). -/
  ackF     : Bool
  /-- `PORTST` (R21). -/
  portst   : PortState
  /-- `PHASE` (R22). -/
  phase    : Phase
  /-- `RESULT` (R24); `none` before any call has returned (R29). -/
  result   : Option Result
  /-- `BAUD`, `LINE_FORMAT`, `READ_TIMEOUT` (R20). -/
  settings : SerialSettings
  /-- `TXS`: the bytes put on the line to the device, oldest first (20_memory R40). -/
  txs      : List Byte
  /-- `RXS`: the bytes consumed from the device, oldest first (20_memory R40). -/
  rxs      : List Byte
  /-- The queue of invocations (log 1). -/
  pending  : List Pending
  /-- The environment's answers (log 2). -/
  env      : Env
  /-- What the last operation yielded (log 19). -/
  ret      : Yield
  /-- The PHASE values written since the last call or session began, oldest first (log 8). -/
  trail    : List Phase
deriving DecidableEq, Repr

/-- Reasons the machine stops with a fault. There is none: the spec's four faults are outcomes of a call, which the
block takes and goes on from (60_exceptions R152, R153), and no operation reads a buffer byte that holds no value (U15). -/
inductive Fault where
deriving DecidableEq, Repr

/-- Reasons a step has no meaning. -/
inductive Refusal where
  /-- An instruction without a meaning; raised by no arm of this model. Safe. -/
  | notModelled (mnemonic : String)
  /-- Raised by the builders, `open`, `exchange`, the commands and the request frames while PHASE is not IDLE (10_state
  R22, R23, R25, 92 D26, U17). Safe: nothing is claimed of an overlapping call. -/
  | overlappingCall
  /-- Raised by `write_all` and `read_exact` while no handle is held (R112, R114: "the open handle"). Safe. -/
  | noOpenHandle
  /-- Raised by `write_all` on a handle whose request was already sent and by `read_exact` on one whose request was not, or
  whose response was already read: a handle serves one write and then one read (10_state R23, 42_transport R110, R119,
  U20). Safe. -/
  | outOfSequence
  /-- Raised by `compute`, `verify` and `with_checksum_applied` on a buffer of length 0 (92 D7, U6). Safe. -/
  | emptyBuffer
  /-- Raised by `write_all` and `exchange` on bytes that are no request of the block: another length, another opcode, other
  fixed bytes of an erase frame (42_transport R112, R119, 30_encoding R73, R74, U1, U2, U8). Safe. -/
  | notARequest
  /-- Raised by the frames with a payload where it has not 128 bytes (30_encoding R63, R69). Safe. -/
  | frameLength (length : Nat)
  /-- Raised by `read_exact` on an expected length other than 1 and 132, and by `exchange` on one that is not that of the
  frame's kind (42_transport R114, R118, R119). Safe. -/
  | responseLength (length : Nat)
  /-- Raised by `interpret_read` on a block that has not 132 bytes (43_response R126). Safe. -/
  | blockLength (length : Nat)
  /-- Raised by the step on queued bytes that are no frame (R73, R74, U1, U2). Safe. -/
  | undecodable (e : DecodeError)
deriving DecidableEq, Repr

/-- The environment with nothing scripted and no draw made. -/
def Env.unscripted : Env := { opens := [], writes := [], arrivals := [], drawn := 0 }

/-- The machine after reset (10_state R29, 70 R170): PHASE idle, the port closed, no result, the serial constants, both
buffers without a value. The latches for which the spec states "unspecified" hold the values log 5 names. -/
def State.reset : State :=
  { acc := 0, ofs := 0, clen := 0, kind := .erase
    txbuf := [], txlen := Config.lenErase, rxbuf := [], rxlen := Config.lenAck
    matchF := false, eodF := false, ackF := false
    portst := .closed, phase := .idle, result := none
    settings := Config.serial, txs := [], rxs := []
    pending := [], env := Env.unscripted, ret := .nothing, trail := [] }

end Sys2Proof.Machine
end

