-- ==== Sys2Proof/Machine/Ops.lean ====
section
/-! DEFINITION. The named operations over buffers, latches, the environment and the sequencer, and TAKING A FAULT as one
shared operation (60_exceptions R152). -/

namespace Sys2Proof.Machine

/-! ### Buffers -/

/-- The canonical form: strictly rising indices. -/
def Memory.wf (m : Memory) : Bool :=
  match m with
  | [] => true
  | [_] => true
  | (a, _) :: (b, v) :: rest => decide (a < b) && Memory.wf ((b, v) :: rest)

/-- The byte at an index; `none` where the buffer holds no value (10_state R25, R26). -/
def Memory.read (m : Memory) (a : Nat) : Option Byte :=
  match m with
  | [] => none
  | (k, v) :: rest => if a = k then some v else Memory.read rest a

/-- Store one byte, keeping the canonical form. -/
def Memory.write (m : Memory) (a : Nat) (b : Byte) : Memory :=
  match m with
  | [] => [(a, b)]
  | (k, v) :: rest =>
    if a < k then (a, b) :: (k, v) :: rest
    else if a = k then (a, b) :: rest
    else (k, v) :: Memory.write rest a b

/-- `MemWrite(SPACE, a, n, v)`: store a byte sequence at `a`, `a+1`, … (00_scope section 6). -/
def Memory.writeBytes (m : Memory) (a : Nat) : List Byte → Memory
  | [] => m
  | b :: bs => Memory.writeBytes (m.write a b) (a + 1) bs

/-- `MemRead(SPACE, a, n)`: the `n` bytes at `a`, `a+1`, …, where all of them hold a value. -/
def Memory.readBytes (m : Memory) (a : Nat) : Nat → Option (List Byte)
  | 0 => some []
  | n + 1 =>
    match m.read a, Memory.readBytes m (a + 1) n with
    | some b, some bs => some (b :: bs)
    | _, _ => none

/-- A fresh buffer that holds a byte sequence from index 0 and nothing else (10_state R25: bytes at TXLEN and above hold
no value; 41 R100: "a fresh buffer of exactly the frame's length"). -/
def Memory.ofBytes (bs : List Byte) : Memory := Memory.writeBytes [] 0 bs

/-- The request frame: `TXBUF[0..TXLEN)`, where every byte of it holds a value (10_state R25). -/
def State.txFrame (s : State) : Option (List Byte) := s.txbuf.readBytes 0 s.txlen

/-- The response: `RXBUF[0..RXLEN)`, where every byte of it holds a value (10_state R26). -/
def State.rxBytes (s : State) : Option (List Byte) := s.rxbuf.readBytes 0 s.rxlen

/-! ### Latches -/

/-- `TXLEN` by kind (42_transport R118). -/
def Kind.txLen : Kind → Nat
  | .erase => Config.lenErase
  | .write => Config.lenWrite
  | .read => Config.lenRead

/-- `RXLEN` by kind (42_transport R118). -/
def Kind.rxLen : Kind → Nat
  | .erase => Config.lenAck
  | .write => Config.lenAck
  | .read => Config.lenData

/-- `KIND <- k` (10_state R14). -/
def State.setKind (s : State) (k : Kind) : State := { s with kind := k }

/-- `OFS <- offset` (10_state R12). -/
def State.setOfs (s : State) (o : Offset) : State := { s with ofs := o }

/-- `CLEN <- min(128, FW_LEN - OFS)` (10_state R13). -/
def State.setClen (s : State) (o : Offset) (fwLen : Nat) : State :=
  { s with clen := ⟨chunkLength o fwLen, chunkLength_lt o fwLen⟩ }

/-- Put a built frame into TXBUF and its length into TXLEN (10_state R25). -/
def State.loadTx (s : State) (frame : List Byte) : State :=
  { s with txlen := frame.length, txbuf := Memory.ofBytes frame }

/-- Put received bytes into RXBUF and their number into RXLEN, and count them as consumed from RXS (42_transport R114). -/
def State.loadRx (s : State) (bs : List Byte) : State :=
  { s with rxlen := bs.length, rxbuf := Memory.ofBytes bs, rxs := s.rxs ++ bs }

/-- RXBUF holds no value after a read that faulted (10_state R26, 92 D12). -/
def State.dropRx (s : State) : State := { s with rxbuf := [] }

/-- No frame is retained across calls (00_scope R6, 10_state R10): the buffers hold no value where a call begins and
where it has ended. -/
def State.dropFrames (s : State) : State := { s with txbuf := [], rxbuf := [] }

/-- Append bytes to the line to the device (42_transport R112). -/
def State.send (s : State) (bs : List Byte) : State := { s with txs := s.txs ++ bs }

/-- What the operation yields to its invoker (log 19). -/
def State.yielding (s : State) (y : Yield) : State := { s with ret := y }

/-! ### The sequencer -/

/-- `PHASE <- p` (10_state R22), remembered in the trail. -/
def State.enter (s : State) (p : Phase) : State := { s with phase := p, trail := s.trail ++ [p] }

/-- A call or a session begins: a fresh trail. -/
def State.begin (s : State) : State := { s with trail := [] }

/-- `RESULT <- v ; PHASE <- IDLE ; return v` (44_commands R133). -/
def State.finish (s : State) (r : Result) : State :=
  (({ s with result := some r }).enter .idle).yielding (.result r)

/-- `PORTST <- CLOSED` (42_transport R117). -/
def State.closeHandle (s : State) : State := { s with portst := .closed }

/-- TAKING A FAULT (60_exceptions R152): the port is closed if it was open, RESULT is the fault, PHASE is IDLE, and
control returns to the caller with the fault. Nothing is saved, masked or vectored. -/
def State.takeFault (s : State) (f : CallFault) : State := s.closeHandle.finish (.fault f)

/-- The number of each fault (60_exceptions R140): a label, on no wire and in no register. -/
def CallFault.code : CallFault → Nat
  | .openFailed _ => 1
  | .writeFailed => 2
  | .readTimeout _ => 3
  | .indexOutOfRange _ _ => 4

/-! ### The environment's draws (42_transport R113) -/

/-- `open_ok`: the answer the next open gets. -/
def Env.openAnswer (e : Env) : Bool := e.opens.headD (Config.freeOpen e.drawn)

/-- `write_ok`: the answer the next write gets. -/
def Env.writeAnswer (e : Env) : WriteAnswer := e.writes.headD (Config.freeWrite e.drawn)

/-- The bytes that arrive within the time-out of the next read. -/
def Env.arrival (e : Env) : List Byte := e.arrivals.headD (Config.freeArrival e.drawn)

/-- The environment after an open was answered. -/
def Env.afterOpen (e : Env) : Env := { e with opens := e.opens.tail, drawn := e.drawn + 1 }

/-- The environment after a write was answered. -/
def Env.afterWrite (e : Env) : Env := { e with writes := e.writes.tail, drawn := e.drawn + 1 }

/-- The environment after a read was answered. -/
def Env.afterRead (e : Env) : Env := { e with arrivals := e.arrivals.tail, drawn := e.drawn + 1 }

/-- How a step of a call goes on: with a value, or by raising one of the four faults (00_scope section 6 `raise`). -/
inductive Flow (α : Type) where
  | ok (a : α) (s : State)
  | raised (f : CallFault) (s : State)

/-- Go on with a value, or take the fault. -/
def Flow.settle {α : Type} (x : Flow α) (k : α → State → State) : State :=
  match x with
  | .ok a s => k a s
  | .raised f s => s.takeFault f

/-- Go on with a value, or hand the fault on: "no later line of the pseudocode runs" (00_scope section 6). -/
def Flow.andThen {α β : Type} (x : Flow α) (k : α → State → Flow β) : Flow β :=
  match x with
  | .ok a s => k a s
  | .raised f s => .raised f s

end Sys2Proof.Machine
end

