-- ==== Sys2Proof/Machine/Csu.lean ====
section
/-! DEFINITION. The Checksum Unit (40_checksum): CSUM.CLR, CSUM.ADD, compute, verify and with_checksum_applied (30_encoding R79). -/

namespace Sys2Proof.Machine

/-- `ACC <- 0` (R90). -/
def State.csumClear (s : State) : State := { s with acc := 0 }

/-- `ACC <- (ACC + b) mod 256`, the carry dropped (R91). -/
def State.csumAdd (s : State) (b : Byte) : State := { s with acc := s.acc + b }

/-- `CSUM.CLR` followed by one `CSUM.ADD` for each byte, ascending (R92, R93). -/
def State.csumOver (s : State) (bs : List Byte) : State := bs.foldl State.csumAdd s.csumClear

/-- A byte sequence with its last byte replaced: `frame[n-1] <- v` (R93). -/
def withLast (frame : List Byte) (v : Byte) : List Byte := covered frame ++ [v]

/-- `compute(frame)` on a buffer of at least one byte: the buffer it leaves, and the state (R93). -/
def computeOn (frame : List Byte) (s : State) : List Byte × State :=
  let s1 := s.csumOver (covered frame)
  (withLast frame s1.acc, s1)

/-- `verify(frame)` on a sequence of at least one byte: the truth value, and the state (R94). -/
def verifyOn (frame : List Byte) (s : State) : Bool × State :=
  let s1 := s.csumOver (covered frame)
  (matchOf s1.acc frame, { s1 with matchF := matchOf s1.acc frame })

/-- `CSUM.CLR` (R90). -/
def execCsumClr (s : State) : Host.Outcome State Fault Refusal :=
  .next (s.csumClear.yielding .nothing)

/-- `CSUM.ADD b` on its own (R91). DESIGN CHOICE: it adds to whatever ACC holds, also where no `CSUM.CLR` came before it in
the call: 10_state R29 says that ACC then holds no value, and the model reads the value log 5 or log 7 names (log 32). -/
def execCsumAdd (b : Byte) (s : State) : Host.Outcome State Fault Refusal :=
  .next ((s.csumAdd b).yielding .nothing)

/-- `compute(frame)` on its own: the caller's buffer as it leaves it is yielded (R93); refused on length 0 (D7). The
buffer is its operand, as R93 says; it is TXBUF (20_memory R40) where a builder runs it. -/
def execCompute (frame : List Byte) (s : State) : Host.Outcome State Fault Refusal :=
  if frame = [] then .refused .emptyBuffer
  else
    let r := computeOn frame s
    .next (r.2.yielding (.buffer r.1))

/-- `verify(frame)` on its own (R94); refused on length 0 (D7). The frame is its operand, as R94 says; it is
RXBUF (20_memory R40) where `interpret_read` runs it. -/
def execVerify (frame : List Byte) (s : State) : Host.Outcome State Fault Refusal :=
  if frame = [] then .refused .emptyBuffer
  else
    let r := verifyOn frame s
    .next (r.2.yielding (.truth r.1))

/-- `with_checksum_applied(b)`: copy, compute on the copy, yield the copy (30_encoding R79); refused on length 0 (D7). -/
def execWithChecksumApplied (b : List Byte) (s : State) : Host.Outcome State Fault Refusal :=
  if b = [] then .refused .emptyBuffer
  else
    let r := computeOn b s
    .next (r.2.yielding (.bytes r.1))

end Sys2Proof.Machine
end

