-- ==== Sys2Proof/Machine/Fmt.lean ====
section
/-! DEFINITION. The Frame Builder (41_frame_builder): build_erase, build_write_chunk, build_read_chunk. A builder forms
its fields over fresh zeros (R100), closes the frame with `compute` last (R104), and leaves it in TXBUF. -/

namespace Sys2Proof.Machine

/-- Close a frame with `compute` and put it into TXBUF, as the last thing a builder does (R104). -/
def closeInto (fields : List Byte) (s : State) : List Byte × State :=
  let r := computeOn fields s
  (r.1, r.2.loadTx r.1)

/-- `build_erase()` (R101): the frame and the state. -/
def buildEraseOn (s : State) : List Byte × State :=
  closeInto eraseFields (s.setKind .erase)

/-- `build_write_chunk(offset, FW)` (R102): INDEX_OUT_OF_RANGE before anything is written, else the frame. -/
def buildWriteOn (offset : Offset) (firmware : List Byte) (s : State) : Flow (List Byte) :=
  if firmware.length < offset.toNat then .raised (.indexOutOfRange offset firmware.length) s
  else
    let s1 := ((s.setKind .write).setOfs offset).setClen offset firmware.length
    let r := closeInto (writeFields offset firmware) s1
    .ok r.1 r.2

/-- `build_read_chunk(offset)` (R103): the frame and the state. -/
def buildReadOn (offset : Offset) (s : State) : List Byte × State :=
  closeInto (readFields offset) ((s.setKind .read).setOfs offset)

/-- A builder on its own. TXBUF is written only in phase BUILD (10_state R25), which is entered from IDLE alone (R22, R23):
in any other phase it is refused. PHASE goes back to IDLE and the frame is yielded (log 9). -/
def buildAlone (build : State → Flow (List Byte)) (s : State) : Host.Outcome State Fault Refusal :=
  if s.phase = .idle then
    .next ((build (s.begin.enter .build)).settle fun frame s1 => (s1.enter .idle).yielding (.bytes frame))
  else .refused .overlappingCall

/-- `build_erase()` on its own (R101). -/
def execBuildErase (s : State) : Host.Outcome State Fault Refusal :=
  buildAlone (fun s1 => .ok (buildEraseOn s1).1 (buildEraseOn s1).2) s

/-- `build_write_chunk(offset, firmware_bytes)` on its own (R102); its fault is taken (R144, R152). -/
def execBuildWriteChunk (offset : Offset) (firmware : List Byte) (s : State) : Host.Outcome State Fault Refusal :=
  buildAlone (buildWriteOn offset firmware) s

/-- `build_read_chunk(offset)` on its own (R103). -/
def execBuildReadChunk (offset : Offset) (s : State) : Host.Outcome State Fault Refusal :=
  buildAlone (fun s1 => .ok (buildReadOn offset s1).1 (buildReadOn offset s1).2) s

end Sys2Proof.Machine
end

