-- ==== Sys2Proof/Machine/Interp.lean ====
section
/-! DEFINITION. The Response Interpreter (43_response): interpret_ack, interpret_read. -/

namespace Sys2Proof.Machine

/-- `interpret_ack` on a one-byte response (R125): the truth value, and the state. -/
def interpretAckOn (response : List Byte) (s : State) : Bool × State :=
  (ackOf response, { s with ackF := ackOf response })

/-- `interpret_read` on a 132-byte block (R126): the sentinel test, then the checksum test, then the payload, in this
order; `verify` is not run on a sentinel block. -/
def interpretReadOn (block : List Byte) (s : State) : Option (List Byte) × State :=
  let s1 := { s with eodF := eodOf block }
  if eodOf block then (none, s1)
  else
    let v := verifyOn block s1
    if v.1 then (some (payloadOf block), v.2) else (none, v.2)

/-- `interpret_ack(r)` on its own (R125). DESIGN CHOICE: `r` is taken by value. R125 gives it as `RXBUF[0]`, and 10_state
R26 reads RXBUF in phase DECODING alone; here neither RXBUF nor RXLEN is read, and it runs in every PHASE (log 31). -/
def execInterpretAck (r : Byte) (s : State) : Host.Outcome State Fault Refusal :=
  let a := interpretAckOn [r] s
  .next (a.2.yielding (.truth a.1))

/-- `interpret_read(block)` on its own (R126). DESIGN CHOICE: `block` is taken by value. R126 gives it as
`RXBUF[0..132)` and returns `MemRead(RXBUF, 3, 128)`, and 10_state R26 reads RXBUF in phase DECODING alone; here neither
RXBUF nor RXLEN is read, and it runs in every PHASE (log 31). -/
def execInterpretRead (block : List Byte) (s : State) : Host.Outcome State Fault Refusal :=
  if block.length = Config.lenData then
    let d := interpretReadOn block s
    .next (d.2.yielding (.block d.1))
  else .refused (.blockLength block.length)

end Sys2Proof.Machine
end

