-- ==== Sys2Proof/Machine/Ufr.lean ====
section
/-! DEFINITION. The Transport Session (42_transport): open, write_all, read_exact, close, exchange. -/

namespace Sys2Proof.Machine

/-- `open(port)` (R111): on success the hardwired settings are applied and the handle is held. -/
def openOn (port : Option PortName) (s : State) : Flow Handle :=
  let s1 := { s with env := s.env.afterOpen }
  if s.env.openAnswer then .ok .current { s1 with portst := .opened, settings := Config.serial }
  else .raised (.openFailed port) s1

/-- How many bytes of a frame of `n` bytes a broken write sent: 0 to `n - 1`, no more is known (R112, U12). -/
def sentBound (sent n : Nat) : Nat := sent % n

/-- `write_all(handle, frame)` (R112): the whole frame, or a free proper prefix of it and the fault. -/
def writeAllOn (frame : List Byte) (s : State) : Flow Unit :=
  let s1 := { s with env := s.env.afterWrite }
  match s.env.writeAnswer with
  | .complete => .ok () (s1.send frame)
  | .broken sent => .raised .writeFailed (s1.send (frame.take (sentBound sent frame.length)))

/-- `read_exact(handle, n)` (R114): the first `n` bytes that arrive, or, where fewer arrive in time, the fault. -/
def readExactOn (n : Nat) (s : State) : Flow (List Byte) :=
  let s1 := { s with env := s.env.afterRead }
  if s.env.arrival.length < n then .raised (.readTimeout n) s1.dropRx
  else .ok (s.env.arrival.take n) (s1.loadRx (s.env.arrival.take n))

/-- `exchange(port, frame, n)` (R119): open, write, read, close, each phase entered before its work. A fault is handed
on with the port as it stands; taking it closes the port (R117, R152). -/
def exchangeOn (port : Option PortName) (frame : List Byte) (n : Nat) (s : State) : Flow (List Byte) :=
  (openOn port (s.enter .opening)).andThen fun _ s1 =>
  (writeAllOn frame (s1.enter .sending)).andThen fun _ s2 =>
  (readExactOn n (s2.enter .receiving)).andThen fun r s3 =>
  .ok r s3.closeHandle

/-- `open(port)` on its own: phase OPENING, left to SENDING with the handle held (R111, 10_state R22; log 9). -/
def execOpenPort (port : PortName) (s : State) : Host.Outcome State Fault Refusal :=
  if s.phase = .idle ∧ s.portst = .closed then
    .next ((openOn (some port) (s.begin.enter .opening)).settle fun h s1 =>
      (s1.enter .sending).yielding (.handle h))
  else .refused .overlappingCall

/-- `write_all(handle, frame)` on its own: in phase SENDING, left to RECEIVING, so that the handle takes no second frame
(R112, R119, 10_state R22, R23). DESIGN CHOICE: the operand itself is sent, and TXBUF and TXLEN, of which R112 says
`frame = TXBUF[0..TXLEN)`, are neither read nor written (log 31). -/
def execWriteAll (_handle : Handle) (frame : List Byte) (s : State) : Host.Outcome State Fault Refusal :=
  if isRequest frame then
    if s.portst = .opened then
      if s.phase = .sending then
        .next ((writeAllOn frame s).settle fun _ s1 => (s1.enter .receiving).yielding .nothing)
      else .refused .outOfSequence
    else .refused .noOpenHandle
  else .refused .notARequest

/-- `read_exact(handle, n)` on its own: in phase RECEIVING, left to DECODING, so that nothing is read before the write and
nothing twice (R110, R114, R119, 10_state R22, R23). DESIGN CHOICE: `n` is either response length, and is not held against
the kind of the frame that was written (log 31); that the handle stays open in DECODING until `close` is log 9. -/
def execReadExact (_handle : Handle) (n : Nat) (s : State) : Host.Outcome State Fault Refusal :=
  if responseLengthOk n then
    if s.portst = .opened then
      if s.phase = .receiving then
        .next ((readExactOn n s).settle fun r s1 => (s1.enter .decoding).yielding (.bytes r))
      else .refused .outOfSequence
    else .refused .noOpenHandle
  else .refused (.responseLength n)

/-- `PHASE <- IDLE` where PHASE is not IDLE already (10_state R22). -/
def State.reachIdle (s : State) : State := if s.phase = .idle then s else s.enter .idle

/-- `close(handle)` on its own: the port is released and no call is in progress any more (R117, 10_state R21, R22; log 9, 27). -/
def execClosePort (_handle : Handle) (s : State) : Host.Outcome State Fault Refusal :=
  .next (s.closeHandle.reachIdle.yielding .nothing)

/-- `exchange(port, frame, n)` on its own: the bytes received are yielded and the block is idle again (R119; log 9). `frame`
is a request of the block, and `n` is the response length of its kind (R118, R119). DESIGN CHOICE: the operand itself is
sent, and TXBUF and TXLEN are neither read nor written (log 31). -/
def execExchange (port : PortName) (frame : List Byte) (n : Nat) (s : State) : Host.Outcome State Fault Refusal :=
  if s.phase = .idle then
    if isRequest frame then
      if n = awaited frame then
        .next ((exchangeOn (some port) frame n s.begin).settle fun r s1 => (s1.enter .idle).yielding (.bytes r))
      else .refused (.responseLength n)
    else .refused .notARequest
  else .refused .overlappingCall

end Sys2Proof.Machine
end

