-- ==== Sys2Proof/Machine/Commands.lean ====
section
/-! DEFINITION. The three commands (44_commands): one pass through the sequencer of 10_state R22. -/

namespace Sys2Proof.Machine

/-- A call is entered with no result and no frame (10_state R10, R29); then `PHASE <- BUILD`, with `KIND` written at the
start of the command (R133, R14). -/
def State.startCall (s : State) (k : Kind) : State :=
  (({ s.begin.dropFrames with result := none } : State).enter .build).setKind k

/-- Phase DECODING of an erase or write call: `RESULT <- Ack(interpret_ack(r[0]))` (R130, R131, R133). -/
def ackPhase (r : List Byte) (s : State) : State :=
  let a := interpretAckOn r (s.enter .decoding)
  a.2.finish (.ack a.1)

/-- Phase DECODING of a read call: `RESULT <- Data(interpret_read(r))` (R132, R133). -/
def dataPhase (r : List Byte) (s : State) : State :=
  let d := interpretReadOn r (s.enter .decoding)
  d.2.finish (.data d.1)

/-- From the built frame to the end of the call: exchange it, decode the response of its kind, return (R118, R133); both
frames go with the call (00_scope R6, 10_state R10). -/
def roundTrip (port : Option PortName) (k : Kind) (frame : List Byte) (s : State) : State :=
  State.dropFrames <| (exchangeOn port frame k.rxLen s).settle fun r s1 =>
    match k with
    | .erase => ackPhase r s1
    | .write => ackPhase r s1
    | .read => dataPhase r s1

/-- `erase(port)` (R130). -/
def execErase (port : PortName) (s : State) : Host.Outcome State Fault Refusal :=
  if s.phase = .idle then
    let r := buildEraseOn (s.startCall .erase)
    .next (roundTrip (some port) .erase r.1 r.2)
  else .refused .overlappingCall

/-- `write_chunk(port, offset, firmware_bytes)` (R131): the frame is built before the port is opened. -/
def execWriteChunk (port : PortName) (offset : Offset) (firmware : List Byte) (s : State) :
    Host.Outcome State Fault Refusal :=
  if s.phase = .idle then
    .next ((buildWriteOn offset firmware (s.startCall .write)).settle fun frame s1 =>
      roundTrip (some port) .write frame s1)
  else .refused .overlappingCall

/-- `read_chunk(port, offset)` (R132). -/
def execReadChunk (port : PortName) (offset : Offset) (s : State) : Host.Outcome State Fault Refusal :=
  if s.phase = .idle then
    let r := buildReadOn offset (s.startCall .read)
    .next (roundTrip (some port) .read r.1 r.2)
  else .refused .overlappingCall

end Sys2Proof.Machine
end

