-- ==== Sys2Proof/Machine/Wire.lean ====
section
/-! DEFINITION. The seven wire frame kinds as instructions (30_encoding R62 to R64, R68 to R71, R80): a request frame is
the call it asks for, on the line it stands on (log 12); a response frame is interpreted (log 13). -/

namespace Sys2Proof.Machine

/-- A call whose request frame is given: it is loaded into TXBUF in phase BUILD, then exchanged and decoded as the
commands do (R118, 44_commands R130 to R133). The frame names no port. A write or read frame goes out with the checksum
byte it has: nothing in the transport looks at it (42_transport R112, R119; log 14). -/
def frameCall (k : Kind) (frame : List Byte) (s : State) : Host.Outcome State Fault Refusal :=
  if s.phase = .idle then
    .next (roundTrip none k frame ((s.startCall k).loadTx frame))
  else .refused .overlappingCall

/-- A one-byte response is handed to the interpreter of its format (R68, 43_response R125). Nothing is received: RXBUF,
RXLEN and RXS are written by a read alone (10_state R26, 00_scope R5; log 13). The frame's own bytes are interpreted, in
every PHASE, and RXBUF is not read (log 13, 31). -/
def decodeAck (response : List Byte) (s : State) : Host.Outcome State Fault Refusal :=
  let a := interpretAckOn response s
  .next (a.2.yielding (.truth a.1))

/-- A read-data block is handed to the interpreter of its format (R69, 43_response R126); nothing is received (log 13). -/
def decodeBlock (block : List Byte) (s : State) : Host.Outcome State Fault Refusal :=
  if block.length = Config.lenData then
    let d := interpretReadOn block s
    .next (d.2.yielding (.block d.1))
  else .refused (.frameLength block.length)

/-- `ERASE` (R62, R130). -/
def execFrameErase (_ck : EraseChecksum) (s : State) : Host.Outcome State Fault Refusal :=
  frameCall .erase eraseFrame s

/-- `WRITE` (R63, R131). -/
def execFrameWrite (offset : Offset) (payload : List Byte) (ck : Byte) (s : State) :
    Host.Outcome State Fault Refusal :=
  if payload.length = Config.chunk then frameCall .write (writeFrameBytes offset payload ck) s
  else .refused (.frameLength (payload.length + 4))

/-- `READ` (R64, R132). -/
def execFrameRead (offset : Offset) (ck : Byte) (s : State) : Host.Outcome State Fault Refusal :=
  frameCall .read (readFrameBytes offset ck) s

/-- `ACK` (R68, R125). -/
def execFrameAck (s : State) : Host.Outcome State Fault Refusal := decodeAck [Config.ack] s

/-- `NACK` (R68, R125). -/
def execFrameNack (r : Byte) (s : State) : Host.Outcome State Fault Refusal := decodeAck [r] s

/-- `EOD` (R69, R70, R126). -/
def execFrameEod (echo0 echo2 : Byte) (payload : List Byte) (ck : Byte) (s : State) :
    Host.Outcome State Fault Refusal :=
  decodeBlock (dataFrameBytes echo0 Config.sentinel echo2 payload ck) s

/-- `DATA` (R69, R126). -/
def execFrameData (echo0 flag echo2 : Byte) (payload : List Byte) (ck : Byte) (s : State) :
    Host.Outcome State Fault Refusal :=
  decodeBlock (dataFrameBytes echo0 flag echo2 payload ck) s

end Sys2Proof.Machine
end

