-- ==== Sys2Proof/Machine/Dispatch.lean ====
section
/-! DEFINITION. One arm per instruction: a direct call of its meaning. -/

namespace Sys2Proof.Machine

def exec (i : Instr) (s : State) : Host.Outcome State Fault Refusal :=
  match i with
  -- the wire frame kinds
  | .frameErase ck => Sys2Proof.Machine.execFrameErase ck s
  | .frameWrite o p ck => Sys2Proof.Machine.execFrameWrite o p ck s
  | .frameRead o ck => Sys2Proof.Machine.execFrameRead o ck s
  | .frameAck => Sys2Proof.Machine.execFrameAck s
  | .frameNack r => Sys2Proof.Machine.execFrameNack r s
  | .frameEod e0 e2 p ck => Sys2Proof.Machine.execFrameEod e0 e2 p ck s
  | .frameData e0 f e2 p ck => Sys2Proof.Machine.execFrameData e0 f e2 p ck s
  -- the Checksum Unit
  | .csumClr => Sys2Proof.Machine.execCsumClr s
  | .csumAdd b => Sys2Proof.Machine.execCsumAdd b s
  | .compute f => Sys2Proof.Machine.execCompute f s
  | .verify f => Sys2Proof.Machine.execVerify f s
  -- the Frame Builder
  | .buildErase => Sys2Proof.Machine.execBuildErase s
  | .buildWriteChunk o fw => Sys2Proof.Machine.execBuildWriteChunk o fw s
  | .buildReadChunk o => Sys2Proof.Machine.execBuildReadChunk o s
  -- the Transport Session
  | .openPort p => Sys2Proof.Machine.execOpenPort p s
  | .writeAll h f => Sys2Proof.Machine.execWriteAll h f s
  | .readExact h n => Sys2Proof.Machine.execReadExact h n s
  | .closePort h => Sys2Proof.Machine.execClosePort h s
  | .exchange p f n => Sys2Proof.Machine.execExchange p f n s
  -- the Response Interpreter
  | .interpretAck r => Sys2Proof.Machine.execInterpretAck r s
  | .interpretRead b => Sys2Proof.Machine.execInterpretRead b s
  -- the commands
  | .erase p => Sys2Proof.Machine.execErase p s
  | .writeChunk p o fw => Sys2Proof.Machine.execWriteChunk p o fw s
  | .readChunk p o => Sys2Proof.Machine.execReadChunk p o s
  -- the pseudo-operation
  | .withChecksumApplied b => Sys2Proof.Machine.execWithChecksumApplied b s

end Sys2Proof.Machine
end

