-- ==== Sys2Proof/Machine/Fetch.lean ====
section
/-! DEFINITION. Taking the next invocation off the queue of the host interface (92 D1, 30_encoding R78, R80; log 1). -/

namespace Sys2Proof.Machine

/-- The instruction that a queued item is: an operation by its name, a frame by its decoding. -/
def Pending.instr : Pending → Except DecodeError Instr
  | .invoke i => .ok i
  | .frame d bs => decodeFrame d bs

/-- The machine with the head of its queue taken. -/
def State.dequeue (s : State) : State := { s with pending := s.pending.tail }

/-- The machine with an item put at the head of its queue. -/
def State.enqueue (s : State) (p : Pending) : State := { s with pending := p :: s.pending }

/-- The queue item a table word stands for (log 22). -/
def tablePending (nbits w : Nat) : Pending := .frame (tableFrame nbits w).1 (tableFrame nbits w).2

end Sys2Proof.Machine
end

