-- ==== Sys2Proof/Machine/Step.lean ====
section
/-! DEFINITION. One step: the next invocation runs to its end; with none queued the block idles (log 1). -/

namespace Sys2Proof.Machine

/-- Take the next queued invocation and run it (R5, R54); a queued byte sequence that is no frame is refused by name. -/
def step (s : State) : Host.Outcome State Fault Refusal :=
  match s.pending with
  | [] => .next s
  | p :: _ =>
    match p.instr with
    | .ok i => exec i s.dequeue
    | .error e => .refused (.undecodable e)

/-- The machine with a table word's frame at the head of its queue, so that the next step runs it. -/
def State.withFetchWord (s : State) (nbits w : Nat) : State := s.enqueue (tablePending nbits w)

end Sys2Proof.Machine
end

