-- ==== Sys2Proof/Safety.lean ====
section
/-! DEFINITION. What counts as a sound state between steps, in the terms claims use, and the helpers claims are stated with. -/

namespace Sys2Proof

/-- The three commands of the caller (44_commands R130 to R132). -/
def Instr.isCommand : Instr → Bool
  | .erase _ => true
  | .writeChunk _ _ _ => true
  | .readChunk _ _ => true
  | _ => false

/-- The request frames (30_encoding R71). -/
def Instr.isRequest : Instr → Bool
  | .frameErase _ => true
  | .frameWrite _ _ _ => true
  | .frameRead _ _ => true
  | _ => false

/-- The request that a call sends: the frame itself, or the frame that the command's builder builds (R118, 41 R101 to
R103). -/
def Instr.requestFrame : Instr → List Byte
  | .frameErase _ => eraseFrame
  | .frameWrite o p ck => writeFrameBytes o p ck
  | .frameRead o ck => readFrameBytes o ck
  | .erase _ => eraseFrame
  | .writeChunk _ o fw => covered (writeFields o fw) ++ [sum8 (covered (writeFields o fw))]
  | .readChunk _ o => covered (readFields o) ++ [sum8 (covered (readFields o))]
  | _ => []

/-- What an instruction may write or do, from the rules that name each latch's writers: ACC (10_state R27), MATCH (R16),
EOD (R17), ACKF (R18), OFS (R12), CLEN (R13), the request side TXBUF, TXLEN and KIND (R14, R25), the response side RXBUF,
RXLEN and RXS (R26, 42_transport R114), and the line to the device (42_transport R112). -/
structure Footprint where
  acc    : Bool := false
  matchF : Bool := false
  eodF   : Bool := false
  ackF   : Bool := false
  ofs    : Bool := false
  clen   : Bool := false
  tx     : Bool := false
  rx     : Bool := false
  send   : Bool := false
deriving DecidableEq, Repr

/-- The footprint of each instruction: what its pseudocode, and that of the operations it runs, writes. -/
def Instr.footprint : Instr → Footprint
  | .frameErase _ => { ackF := true, tx := true, rx := true, send := true }
  | .frameWrite _ _ _ => { ackF := true, tx := true, rx := true, send := true }
  | .frameRead _ _ => { acc := true, matchF := true, eodF := true, tx := true, rx := true, send := true }
  | .frameAck => { ackF := true }
  | .frameNack _ => { ackF := true }
  | .frameEod _ _ _ _ => { eodF := true }
  | .frameData _ _ _ _ _ => { acc := true, matchF := true, eodF := true }
  | .csumClr => { acc := true }
  | .csumAdd _ => { acc := true }
  | .compute _ => { acc := true }
  | .verify _ => { acc := true, matchF := true }
  | .buildErase => { acc := true, tx := true }
  | .buildWriteChunk _ _ => { acc := true, ofs := true, clen := true, tx := true }
  | .buildReadChunk _ => { acc := true, ofs := true, tx := true }
  | .openPort _ => {}
  | .writeAll _ _ => { send := true }
  | .readExact _ _ => { rx := true }
  | .closePort _ => {}
  | .exchange _ _ _ => { rx := true, send := true }
  | .interpretAck _ => { ackF := true }
  | .interpretRead _ => { acc := true, matchF := true, eodF := true }
  | .erase _ => { acc := true, ackF := true, tx := true, rx := true, send := true }
  | .writeChunk _ _ _ =>
    { acc := true, ackF := true, ofs := true, clen := true, tx := true, rx := true, send := true }
  | .readChunk _ _ =>
    { acc := true, matchF := true, eodF := true, ofs := true, tx := true, rx := true, send := true }
  | .withChecksumApplied _ => { acc := true }

end Sys2Proof

namespace Sys2Proof.Machine

/-- PORTST against PHASE between steps (10_state R21, R22, 42_transport R117): idle with the port closed, or a
stand-alone session that holds the port and has still to send, to receive or to close (log 9). -/
def State.portFitsPhase (s : State) : Prop :=
  (s.phase = .idle ∧ s.portst = .closed) ∨
  ((s.phase = .sending ∨ s.phase = .receiving ∨ s.phase = .decoding) ∧ s.portst = .opened)

/-- TXBUF holds no value, or a whole frame of TXLEN bytes (10_state R25). -/
def State.txSound (s : State) : Prop :=
  s.txbuf = [] ∨ ∃ f, s.txbuf = Memory.ofBytes f ∧ f.length = s.txlen

/-- TXBUF holds no value, or a frame closed by its checksum (30_encoding R65, 41 R104, 70 R174). -/
def State.txClosed (s : State) : Prop :=
  s.txbuf = [] ∨ ∃ f, s.txbuf = Memory.ofBytes f ∧ closed f = true

/-- RXBUF holds no value, or a whole response of RXLEN bytes (10_state R26). -/
def State.rxSound (s : State) : Prop :=
  s.rxbuf = [] ∨ ∃ f, s.rxbuf = Memory.ofBytes f ∧ f.length = s.rxlen

/-- A block that a call returned has exactly 128 bytes (10_state R24). -/
def State.resultSound (s : State) : Prop :=
  ∀ p, s.result = some (.data (some p)) → p.length = Config.chunk

/-- The invariant of the machine between steps. -/
structure State.Inv (s : State) : Prop where
  port     : s.portFitsPhase
  tx       : s.txSound
  rx       : s.rxSound
  txlen    : requestLengthOk s.txlen = true
  rxlen    : responseLengthOk s.rxlen = true
  settings : s.settings = Config.serial
  result   : s.resultSound

/-- Run several instructions one after another, stopping at the first stop. -/
def execAll : List Instr → State → Host.Outcome State Fault Refusal
  | [], s => .next s
  | i :: is, s =>
    match exec i s with
    | .next t => execAll is t
    | .fault f => .fault f
    | .refused r => .refused r

/-- The environment lets a call open the port and send its whole frame (42_transport R111, R112). -/
def Env.delivers (e : Env) : Prop := e.openAnswer = true ∧ e.afterOpen.writeAnswer = .complete

/-- The bytes that arrive in time after a call's request was sent (42_transport R114). -/
def Env.reply (e : Env) : List Byte := e.afterOpen.afterWrite.arrival

/-- The environment after a whole exchange. -/
def Env.afterExchange (e : Env) : Env := e.afterOpen.afterWrite.afterRead

/-- An environment whose next exchange is scripted: it opens, sends the whole frame, and `bs` arrives (95 section 2.11). -/
def Env.scripted (bs : List Byte) : Env :=
  { opens := [true], writes := [.complete], arrivals := [bs], drawn := 0 }

/-- A forward pass through the sequencer that ends in IDLE (10_state R22, R23). -/
def forwardPass (ps : List Phase) : Prop :=
  ∃ n, n ≤ 5 ∧ 0 < n ∧ ps = [Phase.build, .opening, .sending, .receiving, .decoding].take n ++ [.idle]

end Sys2Proof.Machine
end

