-- ==== Sys2Proof/Certificates/Slice0/Obligations.lean ====
section
/-! DEFINITION. The statements for the provers, in the order of OBLIGATIONS.json. Each docstring names the rule it formalises. -/

open Sys2Proof Sys2Proof.Machine

/-! ### Reset and the machine's step -/

/-- What reset leaves of what the spec fixes (10_state R29, 70 R170): idle, port closed, no result, the serial
constants, and buffers none of whose bytes holds a value. -/
def Obligations.ResetIsTheCallEntryState : Prop :=
  State.reset.phase = .idle ∧ State.reset.portst = .closed ∧ State.reset.result = none ∧
  State.reset.settings = { baud := 115200, format := { dataBits := 8, parity := false, stopBits := 1 }, readTimeout := 1 } ∧
  (∀ a, State.reset.txbuf.read a = none) ∧ (∀ a, State.reset.rxbuf.read a = none)

/-- Reset meets the invariant. That TXLEN and RXLEN are legal lengths at reset is the model's choice of a value the spec
leaves unspecified (log 5); the buffers hold no value (10_state R29). -/
def Obligations.ResetMeetsTheInvariant : Prop := State.reset.Inv

/-- The invariant of the machine survives every step (10_state R20, R21, R22, R24, R25, R26; log 8, 9). -/
def Obligations.StepKeepsTheInvariant : Prop :=
  ∀ s t : State, s.Inv → step s = .next t → t.Inv

/-- A step runs the head of the queue: a frame that decodes to a well-formed instruction, an operation invoked by its
name; bytes that are no frame are refused by name; with nothing queued the block idles (log 1). -/
def Obligations.StepRunsTheHeadOfTheQueue : Prop :=
  (∀ (s : State) d bs rest i, s.pending = .frame d bs :: rest → decodeFrame d bs = .ok i → i.wf = true →
    step s = exec i { s with pending := rest }) ∧
  (∀ (s : State) d bs rest e, s.pending = .frame d bs :: rest → decodeFrame d bs = .error e →
    step s = .refused (.undecodable e)) ∧
  (∀ (s : State) i rest, s.pending = .invoke i :: rest → step s = exec i { s with pending := rest }) ∧
  (∀ s : State, s.pending = [] → step s = .next s)

/-- A table word placed for the next fetch is the instruction the decoder reads from it, and the next step runs it. -/
def Obligations.FetchWordRunsNext : Prop :=
  ∀ (s : State) (nbits w : Nat) (i : Instr), decodeTableWord nbits w = some i →
    step (s.withFetchWord nbits w) = exec i s

/-! ### The Checksum Unit -/

/-- R90: CSUM.CLR sets the accumulator to zero, and nothing else is changed. -/
def Obligations.CsumClrZeroesTheAccumulator : Prop :=
  ∀ s : State, exec .csumClr s = .next { s with acc := 0, ret := .nothing }

/-- R91: CSUM.ADD adds one byte modulo 256, the carry is recorded nowhere, and nothing else is changed. -/
def Obligations.CsumAddWrapsAtEightBits : Prop :=
  ∀ (b : Byte) (s : State), ∃ t, exec (.csumAdd b) s = .next t ∧
    t.acc.toNat = (s.acc.toNat + b.toNat) % 256 ∧
    t = { s with acc := t.acc, ret := .nothing }

/-- R92: the sum as a function, its value in the natural numbers, and ACC after CLR and one ADD for each byte. -/
def Obligations.AccumulatorHoldsTheWrappingSum : Prop :=
  sum8 [] = 0 ∧
  (∀ (bs : List Byte) (b : Byte), (sum8 (bs ++ [b])).toNat = ((sum8 bs).toNat + b.toNat) % 256) ∧
  (∀ bs : List Byte, (sum8 bs).toNat = (bs.map BitVec.toNat).sum % 256) ∧
  (∀ (bs : List Byte) (s : State), ∃ t,
    execAll (.csumClr :: bs.map .csumAdd) s = .next t ∧ t.acc = sum8 bs ∧
    t = { s with acc := t.acc, ret := .nothing })

/-- R93: compute overwrites the last byte with the sum of the bytes before it, whatever stood there; MATCH and all else
is unchanged; a second pass changes nothing. -/
def Obligations.ComputeOverwritesTheLastByte : Prop :=
  ∀ (body : List Byte) (old : Byte) (s : State),
    exec (.compute (body ++ [old])) s =
      .next { s with acc := sum8 body, ret := .buffer (body ++ [sum8 body]) } ∧
    exec (.compute (body ++ [sum8 body])) s =
      .next { s with acc := sum8 body, ret := .buffer (body ++ [sum8 body]) }

/-- R79: with_checksum_applied yields a copy with compute applied. -/
def Obligations.WithChecksumAppliedYieldsTheClosedCopy : Prop :=
  ∀ (body : List Byte) (old : Byte) (s : State),
    exec (.withChecksumApplied (body ++ [old])) s =
      .next { s with acc := sum8 body, ret := .bytes (body ++ [sum8 body]) }

/-- R94: verify compares the sum of all bytes but the last with the last; ACC and MATCH are written and nothing else. -/
def Obligations.VerifyComparesTheLastByte : Prop :=
  ∀ (body : List Byte) (last : Byte) (s : State), ∃ m : Bool,
    (m = true ↔ last.toNat = (body.map BitVec.toNat).sum % 256) ∧
    exec (.verify (body ++ [last])) s =
      .next { s with acc := sum8 body, matchF := m, ret := .truth m }

/-- A buffer of length 0 is outside the domain of compute, verify and with_checksum_applied (92 D7; log 16). -/
def Obligations.EmptyBufferIsRefused : Prop :=
  ∀ s : State, exec (.compute []) s = .refused .emptyBuffer ∧ exec (.verify []) s = .refused .emptyBuffer ∧
    exec (.withChecksumApplied []) s = .refused .emptyBuffer

/-- R95: what with_checksum_applied yields, and what compute leaves, verifies. -/
def Obligations.ChecksumRoundTripVerifies : Prop :=
  ∀ (b : List Byte) (s : State), b ≠ [] → ∃ f t u,
    exec (.withChecksumApplied b) s = .next t ∧ t.ret = .bytes f ∧
    exec (.verify f) t = .next u ∧ u.matchF = true ∧ u.ret = .truth true ∧
    ∃ t' u', exec (.compute b) s = .next t' ∧ t'.ret = .buffer f ∧
      exec (.verify f) t' = .next u' ∧ u'.matchF = true

/-- R96: a change of exactly one byte of a frame that verifies is detected, the last byte included; changes that keep
the sum, every reordering of the covered bytes among them, are not. -/
def Obligations.OneByteChangeIsDetected : Prop :=
  (∀ (f : List Byte) (i : Nat) (v : Byte) (s t : State),
    exec (.verify f) s = .next t → t.matchF = true → i < f.length → f[i]? ≠ some v →
    ∃ u, exec (.verify (f.set i v)) s = .next u ∧ u.matchF = false) ∧
  (∀ (body body' : List Byte) (last : Byte) (s t : State), body.Perm body' →
    exec (.verify (body ++ [last])) s = .next t →
    ∃ u, exec (.verify (body' ++ [last])) s = .next u ∧ u.matchF = t.matchF) ∧
  (∀ (n : Nat) (s : State), ∃ u, exec (.verify (List.replicate (n + 1) 0)) s = .next u ∧ u.matchF = true) ∧
  (∀ s : State, ∃ u, exec (.verify [0x80, 0x80, 0x00]) s = .next u ∧ u.matchF = true)

/-! ### The Frame Builder -/

/-- R101: build_erase yields the constant frame; KIND, TXLEN, TXBUF and ACC are written, OFS, CLEN and the rest are not.
The last byte is 92 D6's (log 15). On its own it passes BUILD and returns to IDLE (10_state R22, R25; log 9). -/
def Obligations.BuildEraseIsTheConstantFrame : Prop :=
  ∀ s : State, s.phase = .idle → ∃ t, exec .buildErase s = .next t ∧
    t.ret = .bytes [0x39, 0x00, 0x00, 0x55, 0x8E] ∧ t.txFrame = some [0x39, 0x00, 0x00, 0x55, 0x8E] ∧
    (∀ a, 5 ≤ a → t.txbuf.read a = none) ∧
    t = { s with acc := 0x8E, kind := .erase, txlen := 5, txbuf := t.txbuf, trail := [.build, .idle], ret := t.ret }

/-- R102: build_write_chunk under its precondition lays out opcode, offset, the chunk's bytes, zero padding and
checksum; past the image's end it faults with nothing built (92 D8; log 18). On its own it passes BUILD and returns to
IDLE (10_state R22, R25; log 9). -/
def Obligations.BuildWriteChunkLaysOutTheFrame : Prop :=
  ∀ (o : Offset) (fw : List Byte) (s : State), s.phase = .idle →
    (o.toNat ≤ fw.length → ∃ t f, exec (.buildWriteChunk o fw) s = .next t ∧
      t.ret = .bytes f ∧ t.txFrame = some f ∧ f.length = 132 ∧
      f[0]? = some 0x57 ∧ f[1]? = some (BitVec.ofNat 8 (o.toNat / 256)) ∧ f[2]? = some (BitVec.ofNat 8 (o.toNat % 256)) ∧
      t.clen.val = min 128 (fw.length - o.toNat) ∧
      (∀ i, i < t.clen.val → f[3 + i]? = fw[o.toNat + i]?) ∧
      (∀ i, t.clen.val ≤ i → i < 128 → f[3 + i]? = some 0) ∧
      f[131]? = some (sum8 (f.take 131)) ∧
      t = { s with acc := sum8 (f.take 131), kind := .write, ofs := o, clen := t.clen, txlen := 132,
                   txbuf := t.txbuf, trail := [.build, .idle], ret := t.ret }) ∧
    (fw.length < o.toNat → ∃ t, exec (.buildWriteChunk o fw) s = .next t ∧
      t.result = some (.fault (.indexOutOfRange o fw.length)) ∧
      t = { s with portst := .closed, result := t.result, ret := t.ret, trail := [.build, .idle] })

/-- R103: build_read_chunk yields opcode, big-endian offset and checksum; CLEN and the rest are not written. TXBUF holds
those four bytes and nothing above them (10_state R25, 41 R100; log 6). On its own it passes BUILD and returns to IDLE
(10_state R22, R25; log 9). -/
def Obligations.BuildReadChunkLaysOutTheFrame : Prop :=
  ∀ (o : Offset) (s : State), s.phase = .idle → ∃ t hi lo ck, exec (.buildReadChunk o) s = .next t ∧
    hi.toNat = o.toNat / 256 ∧ lo.toNat = o.toNat % 256 ∧ ck.toNat = (0x52 + hi.toNat + lo.toNat) % 256 ∧
    t.ret = .bytes [0x52, hi, lo, ck] ∧ t.txFrame = some [0x52, hi, lo, ck] ∧
    (∀ a, 4 ≤ a → t.txbuf.read a = none) ∧
    t = { s with acc := ck, kind := .read, ofs := o, txlen := 4, txbuf := t.txbuf, trail := [.build, .idle], ret := t.ret }

/-- R105: every frame that a builder returns verifies, and has 5, 132 or 4 bytes. -/
def Obligations.EveryBuiltFrameVerifies : Prop :=
  ∀ (i : Instr) (s t : State) (f : List Byte),
    (i = .buildErase ∨ (∃ o fw, i = .buildWriteChunk o fw) ∨ ∃ o, i = .buildReadChunk o) →
    exec i s = .next t → t.ret = .bytes f →
    (f.length = 5 ∨ f.length = 132 ∨ f.length = 4) ∧
    f.getLast? = some (sum8 (f.take (f.length - 1))) ∧
    ∃ u, exec (.verify f) t = .next u ∧ u.matchF = true

/-! ### The Transport Session -/

/-- R111: open holds the handle under the hardwired settings when the draw lets it, and faults otherwise, with nothing
sent. It begins a session, which the model lets it do when none is in progress (log 10): PHASE passes OPENING and is left
at SENDING with the handle held, or at IDLE (10_state R22; log 8, 9). -/
def Obligations.OpenFollowsTheDraw : Prop :=
  ∀ (p : PortName) (s : State), s.phase = .idle → s.portst = .closed →
    (s.env.openAnswer = true → ∃ t, exec (.openPort p) s = .next t ∧
      t.portst = .opened ∧ t.settings = Config.serial ∧ t.ret = .handle .current ∧
      t = { s with portst := .opened, settings := Config.serial, env := s.env.afterOpen,
                   phase := .sending, trail := [.opening, .sending], ret := .handle .current }) ∧
    (s.env.openAnswer = false → ∃ t, exec (.openPort p) s = .next t ∧
      t.result = some (.fault (.openFailed (some p))) ∧
      t = { s with env := s.env.afterOpen, result := t.result, trail := [.opening, .idle],
                   ret := .result (.fault (.openFailed (some p))) })

/-- R112: write_all puts the whole frame on the line in order, or a proper prefix of it and the fault (92 D14; log 4). It
runs in phase SENDING and leaves to RECEIVING (10_state R22; log 9), and its operand is sent by value (log 31). -/
def Obligations.WriteAllIsAllOrFault : Prop :=
  ∀ (h : Handle) (f : List Byte) (s : State), isRequest f = true → s.portst = .opened → s.phase = .sending →
    (s.env.writeAnswer = .complete → ∃ t, exec (.writeAll h f) s = .next t ∧ t.txs = s.txs ++ f ∧
      t = { s with txs := t.txs, env := s.env.afterWrite, phase := .receiving,
                   trail := s.trail ++ [.receiving], ret := .nothing }) ∧
    (∀ k, s.env.writeAnswer = .broken k → ∃ t m, exec (.writeAll h f) s = .next t ∧
      m < f.length ∧ t.txs = s.txs ++ f.take m ∧ t.result = some (.fault .writeFailed) ∧
      t = { s with txs := t.txs, env := s.env.afterWrite, portst := .closed, phase := .idle,
                   result := t.result, trail := s.trail ++ [.idle], ret := .result (.fault .writeFailed) })

/-- R114: read_exact delivers exactly n bytes in arrival order, the first at RXBUF index 0, or faults; a response that is
too short is discarded, a surplus is never read (92 D12, D21; log 3, 20). It runs in phase RECEIVING and leaves to
DECODING (10_state R22, R26; log 9). -/
def Obligations.ReadExactIsExactOrFault : Prop :=
  ∀ (h : Handle) (n : Nat) (s : State), (n = 1 ∨ n = 132) → s.portst = .opened → s.phase = .receiving →
    (n ≤ s.env.arrival.length → ∃ t, exec (.readExact h n) s = .next t ∧
      t.rxlen = n ∧ t.rxBytes = some (s.env.arrival.take n) ∧ (∀ a, n ≤ a → t.rxbuf.read a = none) ∧
      t.rxs = s.rxs ++ s.env.arrival.take n ∧ t.ret = .bytes (s.env.arrival.take n) ∧
      t = { s with rxlen := n, rxbuf := t.rxbuf, rxs := t.rxs, env := s.env.afterRead,
                   phase := .decoding, trail := s.trail ++ [.decoding], ret := t.ret }) ∧
    (s.env.arrival.length < n → ∃ t, exec (.readExact h n) s = .next t ∧
      t.result = some (.fault (.readTimeout n)) ∧ (∀ a, t.rxbuf.read a = none) ∧
      t = { s with rxbuf := t.rxbuf, env := s.env.afterRead, portst := .closed, phase := .idle,
                   result := t.result, trail := s.trail ++ [.idle], ret := .result (.fault (.readTimeout n)) })

/-- R117: close releases the port and cannot fault (92 D17; log 9, 27). -/
def Obligations.CloseReleasesThePort : Prop :=
  ∀ (h : Handle) (s : State), ∃ t, exec (.closePort h) s = .next t ∧ t.portst = .closed ∧ t.phase = .idle ∧
    t = { s with portst := .closed, phase := .idle, ret := .nothing
                 trail := if s.phase = .idle then s.trail else s.trail ++ [.idle] }

/-- R119: exchange opens, writes the whole request, reads exactly the n bytes its kind awaits (R118), closes and returns
them; a fault of any of the three ends it with the port closed. The draws are log 2 to 4's; that an exchange on its own
ends in IDLE and writes no RESULT is log 9's, and the trail is log 8's; the operand is sent by value (log 31). -/
def Obligations.ExchangeIsOneRoundTrip : Prop :=
  ∀ (p : PortName) (f : List Byte) (n : Nat) (s : State),
    isRequest f = true → n = awaited f → s.phase = .idle →
    (n = 1 ∨ n = 132) ∧
    (s.env.delivers → n ≤ s.env.reply.length → ∃ t, exec (.exchange p f n) s = .next t ∧
      t.ret = .bytes (s.env.reply.take n) ∧ t.txs = s.txs ++ f ∧ t.rxs = s.rxs ++ s.env.reply.take n ∧
      t.rxBytes = some (s.env.reply.take n) ∧ t.portst = .closed ∧
      t.trail = [.opening, .sending, .receiving, .idle] ∧
      t = { s with settings := Config.serial, env := s.env.afterExchange, portst := .closed, rxlen := n,
                   rxbuf := t.rxbuf, rxs := t.rxs, txs := t.txs, trail := t.trail, ret := t.ret }) ∧
    (s.env.openAnswer = false → ∃ t, exec (.exchange p f n) s = .next t ∧
      t.result = some (.fault (.openFailed (some p))) ∧ t.txs = s.txs ∧ t.portst = .closed ∧ t.phase = .idle) ∧
    (∀ k, s.env.openAnswer = true → s.env.afterOpen.writeAnswer = .broken k →
      ∃ t m, exec (.exchange p f n) s = .next t ∧ t.result = some (.fault .writeFailed) ∧
        m < f.length ∧ t.txs = s.txs ++ f.take m ∧ t.portst = .closed ∧ t.phase = .idle) ∧
    (s.env.delivers → s.env.reply.length < n → ∃ t, exec (.exchange p f n) s = .next t ∧
      t.result = some (.fault (.readTimeout n)) ∧ t.txs = s.txs ++ f ∧ (∀ a, t.rxbuf.read a = none) ∧
      t.portst = .closed ∧ t.phase = .idle)

/-- write_all and read_exact need the open handle, at the phase that is theirs (R112, R114, R119, U20; log 9, 11); bytes
that are no request (R119, 30_encoding R73, R74), lengths that no response has, and a length that is not that of the
frame's kind (R118) are refused (log 17). -/
def Obligations.TransportOperandsOutsideTheDomainAreRefused : Prop :=
  ∀ (h : Handle) (p : PortName) (f : List Byte) (n : Nat) (s : State),
    (isRequest f = true → s.portst = .closed → exec (.writeAll h f) s = .refused .noOpenHandle) ∧
    ((n = 1 ∨ n = 132) → s.portst = .closed → exec (.readExact h n) s = .refused .noOpenHandle) ∧
    (isRequest f = true → s.portst = .opened → s.phase ≠ .sending →
      exec (.writeAll h f) s = .refused .outOfSequence) ∧
    ((n = 1 ∨ n = 132) → s.portst = .opened → s.phase ≠ .receiving →
      exec (.readExact h n) s = .refused .outOfSequence) ∧
    (isRequest f = false → exec (.writeAll h f) s = .refused .notARequest) ∧
    (s.phase = .idle → isRequest f = false → exec (.exchange p f n) s = .refused .notARequest) ∧
    (n ≠ 1 → n ≠ 132 → exec (.readExact h n) s = .refused (.responseLength n)) ∧
    (s.phase = .idle → isRequest f = true → n ≠ awaited f →
      exec (.exchange p f n) s = .refused (.responseLength n))

/-! ### The Response Interpreter -/

/-- R125: interpret_ack is true for 06 and for no other byte. That it takes its operand by value, reads no RXBUF and runs in
every PHASE where it is used on its own is the model's choice (log 31). -/
def Obligations.InterpretAckIsTrueForSixOnly : Prop :=
  ∀ (r : Byte) (s : State), ∃ b : Bool, (b = true ↔ r.toNat = 6) ∧
    exec (.interpretAck r) s = .next { s with ackF := b, ret := .truth b }

/-- R126: the sentinel test comes first and leaves ACC and MATCH alone; then the checksum test; then the payload
`[3..131)`, exactly 128 bytes. That it takes the block by value, reads no RXBUF and runs in every PHASE where it is used on
its own is the model's choice (log 31). -/
def Obligations.InterpretReadTestsInOrder : Prop :=
  ∀ (block : List Byte) (s : State), block.length = 132 →
    (block[1]? = some 0xFF → exec (.interpretRead block) s = .next { s with eodF := true, ret := .block none }) ∧
    (block[1]? ≠ some 0xFF → block[131]? ≠ some (sum8 (block.take 131)) →
      exec (.interpretRead block) s =
        .next { s with eodF := false, acc := sum8 (block.take 131), matchF := false, ret := .block none }) ∧
    (block[1]? ≠ some 0xFF → block[131]? = some (sum8 (block.take 131)) → ∃ p : List Byte,
      p.length = 128 ∧ (∀ i, i < 128 → p[i]? = block[3 + i]?) ∧
      exec (.interpretRead block) s =
        .next { s with eodF := false, acc := sum8 (block.take 131), matchF := true, ret := .block (some p) })

/-- interpret_read is defined on blocks of exactly 132 bytes (R126); the model refuses any other (log 17). -/
def Obligations.InterpretReadNeedsAWholeBlock : Prop :=
  ∀ (block : List Byte) (s : State), block.length ≠ 132 →
    exec (.interpretRead block) s = .refused (.blockLength block.length)

/-! ### The commands -/

/-- R130: an erase sends the constant frame, whose last byte is 92 D6's (log 15), and reports whether the device answered
06. Its frames go with the call (00_scope R6, 10_state R10; log 7), and it passes every phase (10_state R22; log 8). -/
def Obligations.EraseReportsTheAcknowledgement : Prop :=
  ∀ (p : PortName) (r : Byte) (rest : List Byte) (s : State),
    s.phase = .idle → s.env.delivers → s.env.reply = r :: rest →
    ∃ t, exec (.erase p) s = .next t ∧
      t.result = some (.ack (r == 0x06)) ∧ t.ackF = (r == 0x06) ∧
      t.txs = s.txs ++ [0x39, 0x00, 0x00, 0x55, 0x8E] ∧ t.rxs = s.rxs ++ [r] ∧
      (∀ a, t.txbuf.read a = none) ∧ (∀ a, t.rxbuf.read a = none) ∧
      t = { s with acc := 0x8E, kind := .erase, txlen := 5, txbuf := t.txbuf, rxlen := 1, rxbuf := t.rxbuf,
                   ackF := t.ackF, portst := .closed, phase := .idle, result := t.result,
                   settings := Config.serial, txs := t.txs, rxs := t.rxs, env := s.env.afterExchange,
                   ret := .result (.ack (r == 0x06)), trail := [.build, .opening, .sending, .receiving, .decoding, .idle] }

/-- R131: a write sends one chunk, padded, and reports whether the device answered 06; it does not advance. CLEN is the
number of the image's bytes in the chunk (10_state R13); the frames go with the call (log 7), and it passes every phase
(10_state R22; log 8). -/
def Obligations.WriteChunkReportsTheAcknowledgement : Prop :=
  ∀ (p : PortName) (o : Offset) (fw : List Byte) (r : Byte) (rest : List Byte) (s : State),
    s.phase = .idle → o.toNat ≤ fw.length → s.env.delivers → s.env.reply = r :: rest →
    ∃ t f pay, exec (.writeChunk p o fw) s = .next t ∧
      t.result = some (.ack (r == 0x06)) ∧ t.ackF = (r == 0x06) ∧
      t.txs = s.txs ++ f ∧ t.rxs = s.rxs ++ [r] ∧ (∀ a, t.txbuf.read a = none) ∧ (∀ a, t.rxbuf.read a = none) ∧
      f = 0x57 :: BitVec.ofNat 8 (o.toNat / 256) :: BitVec.ofNat 8 (o.toNat % 256) ::
            (pay ++ [sum8 (f.take 131)]) ∧
      pay = (fw.drop o.toNat).take 128 ++ List.replicate (128 - (fw.length - o.toNat)) 0 ∧
      t.clen.val = min 128 (fw.length - o.toNat) ∧
      t = { s with acc := sum8 (f.take 131), ofs := o, clen := t.clen, kind := .write, txlen := 132,
                   txbuf := t.txbuf, rxlen := 1, rxbuf := t.rxbuf, ackF := t.ackF, portst := .closed,
                   phase := .idle, result := t.result, settings := Config.serial, txs := t.txs, rxs := t.rxs,
                   env := s.env.afterExchange, ret := .result (.ack (r == 0x06))
                   trail := [.build, .opening, .sending, .receiving, .decoding, .idle] }

/-- R132: a read sends the offset and returns the block's payload, or no data for a sentinel block and for a corrupt one.
On a sentinel block ACC still holds the request's checksum and MATCH is not written; on any other ACC holds the block's
sum and MATCH whether byte 131 is that sum (10_state R16, R17, R27, R126). The frames go with the call (log 7), and it
passes every phase (10_state R22; log 8). -/
def Obligations.ReadChunkReturnsThePayload : Prop :=
  ∀ (p : PortName) (o : Offset) (block rest : List Byte) (s : State),
    s.phase = .idle → s.env.delivers → s.env.reply = block ++ rest → block.length = 132 →
    ∃ t f, exec (.readChunk p o) s = .next t ∧
      f = [0x52, offsetHi o, offsetLo o, 0x52 + offsetHi o + offsetLo o] ∧
      t.txs = s.txs ++ f ∧ t.rxs = s.rxs ++ block ∧ (∀ a, t.txbuf.read a = none) ∧ (∀ a, t.rxbuf.read a = none) ∧
      t.eodF = (block[1]? == some 0xFF) ∧
      t.result = some (.data
        (if block[1]? = some 0xFF then none
         else if block[131]? = some (sum8 (block.take 131)) then some ((block.drop 3).take 128) else none)) ∧
      t.acc = (if block[1]? = some 0xFF then 0x52 + offsetHi o + offsetLo o else sum8 (block.take 131)) ∧
      t.matchF = (if block[1]? = some 0xFF then s.matchF else block[131]? == some (sum8 (block.take 131))) ∧
      t = { s with acc := t.acc, ofs := o, kind := .read, txlen := 4, txbuf := t.txbuf, rxlen := 132,
                   rxbuf := t.rxbuf, matchF := t.matchF, eodF := t.eodF, portst := .closed, phase := .idle,
                   result := t.result, settings := Config.serial, txs := t.txs, rxs := t.rxs,
                   env := s.env.afterExchange, ret := t.ret
                   trail := [.build, .opening, .sending, .receiving, .decoding, .idle] }

/-- R133: from IDLE every command completes, whatever the environment answers: a result, the port closed, IDLE. An erase
or a write ends in an acknowledgement or a fault, a read in data or a fault (10_state R24). -/
def Obligations.EveryCommandCompletes : Prop :=
  ∀ (i : Instr) (s : State), i.isCommand = true → s.phase = .idle →
    ∃ t r, exec i s = .next t ∧ t.phase = .idle ∧ t.portst = .closed ∧ t.result = some r ∧ t.ret = .result r ∧
      ((∀ p o, i ≠ .readChunk p o) → (∃ b, r = .ack b) ∨ ∃ f, r = .fault f) ∧
      (∀ p o, i = .readChunk p o → (∃ d, r = .data d) ∨ ∃ f, r = .fault f)

/-- R151: the first fault condition in phase order is the one a call reports, for every command; what a later phase
would have met is not examined, and no draw of a later phase is made. -/
def Obligations.FirstFaultInPhaseOrderWins : Prop :=
  (∀ (p : PortName) (o : Offset) (fw : List Byte) (s : State), s.phase = .idle → fw.length < o.toNat →
    ∃ t, exec (.writeChunk p o fw) s = .next t ∧ t.result = some (.fault (.indexOutOfRange o fw.length)) ∧
      t.txs = s.txs ∧ t.rxs = s.rxs ∧ t.env = s.env ∧ t.acc = s.acc ∧ t.trail = [.build, .idle]) ∧
  (∀ (i : Instr) (n : Nat) (p : PortName) (s : State), s.phase = .idle →
    ((i = .erase p ∧ n = 1) ∨ (∃ o fw, i = .writeChunk p o fw ∧ o.toNat ≤ fw.length ∧ n = 1) ∨
      (∃ o, i = .readChunk p o ∧ n = 132)) →
    (s.env.openAnswer = false → ∃ t, exec i s = .next t ∧ t.result = some (.fault (.openFailed (some p))) ∧
      t.txs = s.txs ∧ t.rxs = s.rxs ∧ t.env = s.env.afterOpen ∧ t.trail = [.build, .opening, .idle]) ∧
    (∀ k, s.env.openAnswer = true → s.env.afterOpen.writeAnswer = .broken k → ∃ t m, exec i s = .next t ∧
      t.result = some (.fault .writeFailed) ∧ m < i.requestFrame.length ∧ t.txs = s.txs ++ i.requestFrame.take m ∧
      t.rxs = s.rxs ∧ t.env = s.env.afterOpen.afterWrite ∧ t.trail = [.build, .opening, .sending, .idle]) ∧
    (s.env.delivers → s.env.reply.length < n → ∃ t, exec i s = .next t ∧
      t.result = some (.fault (.readTimeout n)) ∧ t.txs = s.txs ++ i.requestFrame ∧ t.rxs = s.rxs ∧
      (∀ a, t.rxbuf.read a = none) ∧ t.env = s.env.afterExchange ∧
      t.trail = [.build, .opening, .sending, .receiving, .idle]))

/-- R152: whenever an instruction ends by taking a fault, RESULT is the fault, the port is closed and PHASE is IDLE. R152
says it of a call; of a build_write_chunk used on its own it is the model's reading (log 18). -/
def Obligations.FaultEntryClosesAndIdles : Prop :=
  ∀ (i : Instr) (s t : State) (f : CallFault), exec i s = .next t → t.ret = .result (.fault f) →
    t.result = some (.fault f) ∧ t.portst = .closed ∧ t.phase = .idle ∧ t.trail.getLast? = some .idle

/-- R153: a fault is not sticky: after any fault the next erase runs and reports the device's answer. -/
def Obligations.FaultIsNotSticky : Prop :=
  ∀ (i : Instr) (s t : State) (f : CallFault) (p : PortName) (rest : List Byte),
    exec i s = .next t → t.ret = .result (.fault f) → t.env.delivers → t.env.reply = 0x06 :: rest →
    ∃ u, exec (.erase p) t = .next u ∧ u.result = some (.ack true)

/-- R23: PHASE never moves backwards within a call and each phase is entered at most once; a call, an open, an exchange
or a build while PHASE is not IDLE is refused (92 D26; 10_state R22, R25; log 8, 9, 10). -/
def Obligations.PhaseNeverMovesBackwards : Prop :=
  (∀ (i : Instr) (s t : State), (i.isCommand = true ∨ i.isRequest = true) → exec i s = .next t →
    forwardPass t.trail) ∧
  (∀ (i : Instr) (s : State), i.isCommand = true → s.phase ≠ .idle → exec i s = .refused .overlappingCall) ∧
  (∀ (p : PortName) (f : List Byte) (n : Nat) (s : State), s.phase ≠ .idle →
    exec (.openPort p) s = .refused .overlappingCall ∧ exec (.exchange p f n) s = .refused .overlappingCall) ∧
  (∀ (o : Offset) (fw : List Byte) (s : State), s.phase ≠ .idle →
    exec .buildErase s = .refused .overlappingCall ∧ exec (.buildWriteChunk o fw) s = .refused .overlappingCall ∧
    exec (.buildReadChunk o) s = .refused .overlappingCall)

/-- R110: a call makes at most one open, one write and one read, in that order. What it puts on the line is a prefix of
its one request, closed unless it is a request frame that came with a wrong checksum (log 14), and what it consumes is
nothing, or the first bytes that arrived, as many as that request's kind awaits (R118). -/
def Obligations.OneExchangePerCall : Prop :=
  ∀ (i : Instr) (s t : State), (i.isCommand = true ∨ i.isRequest = true) → exec i s = .next t →
    (t.env = s.env ∨ t.env = s.env.afterOpen ∨ t.env = s.env.afterOpen.afterWrite ∨ t.env = s.env.afterExchange) ∧
    isRequest i.requestFrame = true ∧ (i.checksummed = true → closed i.requestFrame = true) ∧
    (∃ m, t.txs = s.txs ++ i.requestFrame.take m) ∧
    (t.rxs = s.rxs ∨
      (awaited i.requestFrame ≤ s.env.reply.length ∧ t.rxs = s.rxs ++ s.env.reply.take (awaited i.requestFrame)))

/-- R135: a command's result and the bytes it sends depend on its operands and its draws alone: two states that agree on
the environment's answers, and on nothing else, give the same. -/
def Obligations.CommandsDependOnOperandsAndDrawsOnly : Prop :=
  ∀ (i : Instr) (s t s' t' : State), i.isCommand = true → s.env = t.env →
    exec i s = .next s' → exec i t = .next t' →
    s'.result = t'.result ∧ s'.env = t'.env ∧ s'.trail = t'.trail ∧
    ∃ sent got, s'.txs = s.txs ++ sent ∧ t'.txs = t.txs ++ sent ∧ s'.rxs = s.rxs ++ got ∧ t'.rxs = t.rxs ++ got

/-- R118: the kind of the request fixes how many bytes are sent, how many are awaited, and which interpreter decodes
them: with as many bytes as are awaited the call returns that interpreter's value on the first of them (R125, R126, 92
D21; log 3), with fewer it times out (R114, R143). -/
def Obligations.ResponseLengthFollowsTheKind : Prop :=
  ∀ (i : Instr) (k : Kind) (sent n : Nat) (s : State), s.phase = .idle → s.env.delivers →
    ((∃ p, i = .erase p ∧ k = .erase ∧ sent = 5 ∧ n = 1) ∨
      (∃ p o fw, i = .writeChunk p o fw ∧ o.toNat ≤ fw.length ∧ k = .write ∧ sent = 132 ∧ n = 1) ∨
      (∃ p o, i = .readChunk p o ∧ k = .read ∧ sent = 4 ∧ n = 132)) →
    ∃ t, exec i s = .next t ∧ t.kind = k ∧ t.txlen = sent ∧ t.txs.length = s.txs.length + sent ∧
      (n ≤ s.env.reply.length → t.rxlen = n ∧ t.rxs = s.rxs ++ s.env.reply.take n ∧
        (k ≠ .read → t.result = some (.ack (s.env.reply[0]? == some 0x06))) ∧
        (k = .read → t.result = some (.data
          (if s.env.reply[1]? = some 0xFF then none
           else if s.env.reply[131]? = some (sum8 (s.env.reply.take 131)) then
             some ((s.env.reply.drop 3).take 128)
           else none)))) ∧
      (s.env.reply.length < n → t.rxs = s.rxs ∧ t.result = some (.fault (.readTimeout n)))

/-- R145: whatever bytes arrive, as long as there are as many as the request's kind awaits, a call that sent its frame
returns a typed result and no fault. -/
def Obligations.NoReceivedByteCausesAFault : Prop :=
  ∀ (i : Instr) (s t : State), (i.isCommand = true ∨ i.isRequest = true) → s.env.delivers →
    awaited i.requestFrame ≤ s.env.reply.length → (∀ p o fw, i = .writeChunk p o fw → o.toNat ≤ fw.length) →
    exec i s = .next t → ∀ f, t.result ≠ some (.fault f)

/-! ### The wire frames -/

/-- A request frame runs as the call it asks for (30_encoding R71, R118; log 12, 14): what goes out is the frame, and what
comes back is decoded by the kind. The erase frame's last byte is 92 D6's (log 15). The latches the call writes are as
its rules say; ACC (but for a checked block), OFS and CLEN are as they were, since no builder runs (log 12), and both
buffers hold no value after it (log 7). -/
def Obligations.RequestFramesRunTheirCall : Prop :=
  ∀ s : State, s.phase = .idle → s.env.delivers →
    (∀ r rest, s.env.reply = r :: rest → ∃ t, exec (.frameErase .fixed) s = .next t ∧
      t.result = some (.ack (r == 0x06)) ∧ t.txs = s.txs ++ [0x39, 0x00, 0x00, 0x55, 0x8E] ∧ t.rxs = s.rxs ++ [r] ∧
      (∀ a, t.txbuf.read a = none) ∧ (∀ a, t.rxbuf.read a = none) ∧
      t = { s with kind := .erase, txlen := 5, txbuf := t.txbuf, rxlen := 1, rxbuf := t.rxbuf, ackF := (r == 0x06)
                   portst := .closed, phase := .idle, result := t.result, settings := Config.serial
                   txs := t.txs, rxs := t.rxs, env := s.env.afterExchange, ret := .result (.ack (r == 0x06))
                   trail := [.build, .opening, .sending, .receiving, .decoding, .idle] }) ∧
    (∀ o pay ck r rest, pay.length = 128 → s.env.reply = r :: rest →
      ∃ t, exec (.frameWrite o pay ck) s = .next t ∧
        t.result = some (.ack (r == 0x06)) ∧ t.txs = s.txs ++ writeFrameBytes o pay ck ∧ t.rxs = s.rxs ++ [r] ∧
        (∀ a, t.txbuf.read a = none) ∧ (∀ a, t.rxbuf.read a = none) ∧
        t = { s with kind := .write, txlen := 132, txbuf := t.txbuf, rxlen := 1, rxbuf := t.rxbuf, ackF := (r == 0x06)
                     portst := .closed, phase := .idle, result := t.result, settings := Config.serial
                     txs := t.txs, rxs := t.rxs, env := s.env.afterExchange, ret := .result (.ack (r == 0x06))
                     trail := [.build, .opening, .sending, .receiving, .decoding, .idle] }) ∧
    (∀ o ck block rest, s.env.reply = block ++ rest → block.length = 132 →
      ∃ t, exec (.frameRead o ck) s = .next t ∧
        t.result = some (.data
          (if block[1]? = some 0xFF then none
           else if block[131]? = some (sum8 (block.take 131)) then some ((block.drop 3).take 128) else none)) ∧
        t.txs = s.txs ++ readFrameBytes o ck ∧ t.rxs = s.rxs ++ block ∧
        (∀ a, t.txbuf.read a = none) ∧ (∀ a, t.rxbuf.read a = none) ∧ t.eodF = (block[1]? == some 0xFF) ∧
        t.acc = (if block[1]? = some 0xFF then s.acc else sum8 (block.take 131)) ∧
        t.matchF = (if block[1]? = some 0xFF then s.matchF else block[131]? == some (sum8 (block.take 131))) ∧
        t = { s with acc := t.acc, matchF := t.matchF, eodF := t.eodF, kind := .read, txlen := 4, txbuf := t.txbuf
                     rxlen := 132, rxbuf := t.rxbuf, portst := .closed, phase := .idle, result := t.result
                     settings := Config.serial, txs := t.txs, rxs := t.rxs, env := s.env.afterExchange, ret := t.ret
                     trail := [.build, .opening, .sending, .receiving, .decoding, .idle] })

/-- A request frame and the command that builds it are the same call on the line: equal results and equal streams (log
12). That the erase frame is the one erase builds rests on 92 D6 (log 15). -/
def Obligations.RequestFrameEqualsItsCommand : Prop :=
  ∀ (p : PortName) (o : Offset) (fw : List Byte) (s : State),
    s.phase = .idle → s.env.openAnswer = true → o.toNat ≤ fw.length →
    (∃ t u, exec (.frameErase .fixed) s = .next t ∧ exec (.erase p) s = .next u ∧
      t.result = u.result ∧ t.txs = u.txs ∧ t.rxs = u.rxs ∧ t.env = u.env ∧ t.trail = u.trail) ∧
    (∃ t u ck, exec (.frameRead o ck) s = .next t ∧ closed (readFrameBytes o ck) = true ∧
      exec (.readChunk p o) s = .next u ∧
      t.result = u.result ∧ t.txs = u.txs ∧ t.rxs = u.rxs ∧ t.env = u.env ∧ t.trail = u.trail) ∧
    (∃ t u pay ck, exec (.frameWrite o pay ck) s = .next t ∧
      writeFrameBytes o pay ck = (Instr.writeChunk p o fw).requestFrame ∧
      exec (.writeChunk p o fw) s = .next u ∧
      t.result = u.result ∧ t.txs = u.txs ∧ t.rxs = u.rxs ∧ t.env = u.env ∧ t.trail = u.trail)

/-- A request frame while a call is in progress is refused (10_state R23, 92 D26), and so is a frame with a payload that
has not 128 bytes (30_encoding R63, R69; log 10, 17). -/
def Obligations.FramesThatCannotRunAreRefused : Prop :=
  ∀ (o : Offset) (pay : List Byte) (ck e0 e2 fl : Byte) (s : State),
    (s.phase ≠ .idle → exec (.frameErase .fixed) s = .refused .overlappingCall ∧
      exec (.frameRead o ck) s = .refused .overlappingCall ∧
      (pay.length = 128 → exec (.frameWrite o pay ck) s = .refused .overlappingCall)) ∧
    (pay.length ≠ 128 → exec (.frameWrite o pay ck) s = .refused (.frameLength (pay.length + 4)) ∧
      exec (.frameEod e0 e2 pay ck) s = .refused (.frameLength (pay.length + 4)) ∧
      exec (.frameData e0 fl e2 pay ck) s = .refused (.frameLength (pay.length + 4)))

/-- A response frame is interpreted by its format (30_encoding R68 to R70, 43 R125, R126; log 13): what the interpreter
writes is written, and nothing is received (10_state R26). -/
def Obligations.ResponseFramesAreInterpreted : Prop :=
  (∀ s : State, exec .frameAck s = .next { s with ackF := true, ret := .truth true }) ∧
  (∀ (r : Byte) (s : State), r ≠ 0x06 → exec (.frameNack r) s = .next { s with ackF := false, ret := .truth false }) ∧
  (∀ (e0 e2 ck : Byte) (pay : List Byte) (s : State), pay.length = 128 →
    exec (.frameEod e0 e2 pay ck) s = .next { s with eodF := true, ret := .block none }) ∧
  (∀ (e0 fl e2 ck : Byte) (pay : List Byte) (s : State), pay.length = 128 → fl ≠ 0xFF → ∃ m : Bool,
    (m = true ↔ ck.toNat = (e0.toNat + fl.toNat + e2.toNat + (pay.map BitVec.toNat).sum) % 256) ∧
    exec (.frameData e0 fl e2 pay ck) s =
      .next { s with eodF := false, acc := e0 + fl + e2 + sum8 pay, matchF := m,
                     ret := .block (if m then some pay else none) })

/-! ### Whole-machine rules -/

/-- Each latch and flag is written only by the operations that its rule names (10_state R12, R13, R16, R17, R18, R27):
every other instruction leaves it as it was. That a request frame leaves ACC, OFS and CLEN alone, since no builder runs
for it, is the model's choice (log 12). No instruction writes the model's queue of invocations (log 1). -/
def Obligations.LatchesAreWrittenOnlyByTheirOperations : Prop :=
  ∀ (i : Instr) (s t : State), exec i s = .next t →
    (i.footprint.acc = false → t.acc = s.acc) ∧ (i.footprint.matchF = false → t.matchF = s.matchF) ∧
    (i.footprint.eodF = false → t.eodF = s.eodF) ∧ (i.footprint.ackF = false → t.ackF = s.ackF) ∧
    (i.footprint.ofs = false → t.ofs = s.ofs) ∧ (i.footprint.clen = false → t.clen = s.clen) ∧
    t.pending = s.pending

/-- TXBUF, TXLEN and KIND are changed only by the instructions that build or load a frame, RXBUF and RXLEN only by those
that receive (10_state R14, R25, R26). A call empties both buffers where it begins and ends, also where it receives
nothing (log 7); that write_all and exchange used on their own leave TXBUF and TXLEN, and the interpreters RXBUF and RXLEN,
is the model's choice (log 31). -/
def Obligations.BuffersAreWrittenOnlyByTheirInstructions : Prop :=
  ∀ (i : Instr) (s t : State), exec i s = .next t →
    (i.footprint.tx = false → (∀ a, t.txbuf.read a = s.txbuf.read a) ∧ t.txlen = s.txlen ∧ t.kind = s.kind) ∧
    (i.footprint.rx = false → (∀ a, t.rxbuf.read a = s.rxbuf.read a) ∧ t.rxlen = s.rxlen)

/-- 41 R104, 70 R174: no instruction leaves in TXBUF a frame that its checksum does not close. That a request frame, whatever
its checksum byte, leaves TXBUF empty is log 7's. -/
def Obligations.TheBuiltFrameStaysClosed : Prop :=
  State.reset.txClosed ∧
  ∀ (i : Instr) (s t : State), s.txClosed → exec i s = .next t → t.txClosed

/-- R51 and R54: bytes put on the line are never recalled and bytes consumed never given back; only the operations that
send and receive touch the streams. -/
def Obligations.StreamsOnlyGrow : Prop :=
  ∀ (i : Instr) (s t : State), exec i s = .next t →
    ∃ sent got, t.txs = s.txs ++ sent ∧ t.rxs = s.rxs ++ got ∧
      (i.footprint.send = false → sent = []) ∧ (i.footprint.rx = false → got = [])

/-- R20: no operation changes the hardwired serial settings (8-N-1 is 92 D10's: log 28). -/
def Obligations.SerialSettingsAreHardwired : Prop :=
  Config.serial.baud = 115200 ∧ Config.serial.readTimeout = 1 ∧
  Config.serial.format = { dataBits := 8, parity := false, stopBits := 1 } ∧
  ∀ (i : Instr) (s t : State), s.settings = Config.serial → exec i s = .next t → t.settings = Config.serial

/-! ### Encoding -/

/-- Decoding the frame of a well-formed instruction gives the instruction back, for every operand value (30_encoding
R62 to R64, R68 to R70, R80). -/
def Obligations.DecodeOfEncodeIsTheInstruction : Prop :=
  ∀ (i : Instr) (d : Direction) (bs : List Byte), i.wf = true → encode i = some (d, bs) → decodeFrame d bs = .ok i

/-- A frame has one meaning: what decodes to an instruction is the bytes the encoder gives it. -/
def Obligations.DecodedBytesAreTheEncoding : Prop :=
  ∀ (d : Direction) (bs : List Byte) (i : Instr), decodeFrame d bs = .ok i → encode i = some (d, bs)

/-- Requests follow one another on the line without markers, and byte 0 tells where each ends (30_encoding R72). -/
def Obligations.RequestsComeOffTheStreamOneByOne : Prop :=
  ∀ (i : Instr) (bs rest : List Byte), i.wf = true → encode i = some (.blockToDevice, bs) →
    takeRequest (bs ++ rest) = .ok (i, rest)

/-- R75: every byte is a well-formed acknowledgement, `ACK` or `NACK` by its value (R68), and every 132 bytes are a
well-formed read-data block, `EOD` or `DATA` by byte 1 (R69, R70), with every byte in its field; R74: an opcode other
than the three is no request (U2). -/
def Obligations.EveryResponseDecodesAndNoOtherOpcodeDoes : Prop :=
  (∀ r : Byte, decodeFrame .deviceToBlock [r] = .ok (if r = 0x06 then .frameAck else .frameNack r)) ∧
  (∀ bs : List Byte, bs.length = 132 → ∃ (e0 fl e2 : Byte) (pay : List Byte) (ck : Byte),
    bs = e0 :: fl :: e2 :: (pay ++ [ck]) ∧ pay.length = 128 ∧
    decodeFrame .deviceToBlock bs = .ok (if fl = 0xFF then .frameEod e0 e2 pay ck else .frameData e0 fl e2 pay ck)) ∧
  (∀ (op : Byte) (rest : List Byte), op ≠ 0x39 → op ≠ 0x57 → op ≠ 0x52 →
    decodeFrame .blockToDevice (op :: rest) = .error (.unknownOpcode op))

/-- R66: the offset's two bytes, most significant first, for both requests that carry it. -/
def Obligations.OffsetIsBigEndianOnTheWire : Prop :=
  ∀ (o : Offset) (pay : List Byte) (ck : Byte), ∃ hi lo : Byte,
    hi.toNat = o.toNat / 256 ∧ lo.toNat = o.toNat % 256 ∧
    encode (.frameRead o ck) = some (.blockToDevice, [0x52, hi, lo, ck]) ∧
    encode (.frameWrite o pay ck) = some (.blockToDevice, 0x57 :: hi :: lo :: (pay ++ [ck]))

/-- Words written out from the spec's encodings decode to the instructions they stand for (95 T-ERASE-1,
T-RD-3, T-ACK-1, T-ACK-6). -/
def Obligations.DecodesTheSpecsWords : Prop :=
  decodeFrame .blockToDevice [0x39, 0x00, 0x00, 0x55, 0x8E] = .ok (.frameErase .fixed) ∧
  decodeFrame .blockToDevice [0x52, 0x01, 0x00, 0x53] = .ok (.frameRead 0x0100 0x53) ∧
  decodeFrame .blockToDevice (0x57 :: 0x00 :: 0xC0 :: (List.replicate 128 0x00 ++ [0x17])) =
    .ok (.frameWrite 0x00C0 (List.replicate 128 0x00) 0x17) ∧
  decodeFrame .deviceToBlock [0x06] = .ok .frameAck ∧ decodeFrame .deviceToBlock [0x15] = .ok (.frameNack 0x15) ∧
  decodeFrame .deviceToBlock (0x52 :: 0xFF :: 0x01 :: (List.replicate 128 0x00 ++ [0x52])) =
    .ok (.frameEod 0x52 0x01 (List.replicate 128 0x00) 0x52) ∧
  decodeFrame .deviceToBlock (0x00 :: 0x00 :: 0x00 :: (List.replicate 128 0x00 ++ [0x00])) =
    .ok (.frameData 0x00 0x00 0x00 (List.replicate 128 0x00) 0x00)

/-! ### No frame outlives its call, and no handle serves a second one -/

/-- R6 and 10_state R10: no frame is retained across calls: where a call has ended, both buffers hold no value, the port
is closed, PHASE is IDLE, and RESULT is that call's own, which it also yields (R24; log 7). A request frame as a call is
the model's reading (log 12). -/
def Obligations.NoFrameIsRetainedAcrossCalls : Prop :=
  ∀ (i : Instr) (s t : State), (i.isCommand = true ∨ i.isRequest = true) → exec i s = .next t →
    (∀ a, t.txbuf.read a = none) ∧ (∀ a, t.rxbuf.read a = none) ∧ t.portst = .closed ∧ t.phase = .idle ∧
    ∃ r, t.result = some r ∧ t.ret = .result r

/-- R119: on one handle there is one write and then one read (R110, U20; the session of the stand-alone operations is log
9's). A handle that an instruction leaves open was opened by it, in SENDING with nothing sent or consumed, or was open
before: then PHASE and both streams are as they were, or a write_all sent in SENDING and left to RECEIVING, or a read_exact
consumed in RECEIVING and left to DECODING. No other instruction moves PHASE on an open handle, so neither happens twice and
the read does not come first; write_all and read_exact out of their turn are refused. -/
def Obligations.OneFramePerHandle : Prop :=
  (∀ (i : Instr) (s t : State), exec i s = .next t → t.portst = .opened →
    (s.portst = .closed → (∃ p, i = .openPort p) ∧ t.phase = .sending ∧ t.txs = s.txs ∧ t.rxs = s.rxs) ∧
    (s.portst = .opened →
      (t.phase = s.phase ∧ t.txs = s.txs ∧ t.rxs = s.rxs) ∨
      (s.phase = .sending ∧ t.phase = .receiving ∧ t.rxs = s.rxs ∧ ∃ h f, i = .writeAll h f) ∨
      (s.phase = .receiving ∧ t.phase = .decoding ∧ t.txs = s.txs ∧ ∃ h n, i = .readExact h n))) ∧
  ∀ (h : Handle) (f g : List Byte) (n m : Nat) (s t : State),
    (exec (.writeAll h f) s = .next t →
      s.portst = .opened ∧ s.phase = .sending ∧ ∃ r, exec (.writeAll h g) t = .refused r) ∧
    (exec (.readExact h n) s = .next t →
      s.portst = .opened ∧ s.phase = .receiving ∧ (∃ r, exec (.writeAll h g) t = .refused r) ∧
      ∃ r, exec (.readExact h m) t = .refused r)

/-- 30_encoding R73 and R74: whatever an instruction puts on the line is a prefix of one request: the constant erase
frame (its last byte is 92 D6's: log 15), a write frame or a read frame, and nothing else is ever produced. -/
def Obligations.OnlyRequestsAreSent : Prop :=
  ∀ (i : Instr) (s t : State), exec i s = .next t →
    t.txs = s.txs ∨ ∃ (f : List Byte) (m : Nat),
      (f = [0x39, 0x00, 0x00, 0x55, 0x8E] ∨ (f.head? = some 0x57 ∧ f.length = 132) ∨
        (f.head? = some 0x52 ∧ f.length = 4)) ∧
      t.txs = s.txs ++ f.take m

/-- What write_all and exchange take for a request is what the decoder of requests takes (30_encoding R62 to R64, R71,
R73, R74; log 17), whatever the checksum byte of a write or read frame (log 14). -/
def Obligations.RequestsAreWhatTheDecoderTakes : Prop :=
  ∀ f : List Byte, isRequest f = true ↔ ∃ i, decodeFrame .blockToDevice f = .ok i
end

