-- ==== Sys2Proof/Laws/Checksum.lean ====
section
/-! SUPPORT. Laws of the wrapping sum and of closed frames (40_checksum R92, R95). -/

namespace Sys2Proof

@[simp] theorem sum8_nil : sum8 [] = 0 := rfl

@[simp] theorem sum8_concat (s : List Byte) (b : Byte) : sum8 (s ++ [b]) = sum8 s + b := by
  simp [sum8]

/-- Accumulating from `a` is `a` plus the sum. -/
theorem foldl_add_eq (s : List Byte) (a : Byte) : s.foldl (fun acc b => acc + b) a = a + sum8 s := by
  induction s using List.reverseRecOn with
  | nil => simp
  | append_singleton s b ih => simp [List.foldl_append, ih, BitVec.add_assoc]

@[simp] theorem sum8_cons (b : Byte) (s : List Byte) : sum8 (b :: s) = b + sum8 s := by
  have h := foldl_add_eq s b
  simpa [sum8] using h

@[simp] theorem sum8_append (s t : List Byte) : sum8 (s ++ t) = sum8 s + sum8 t := by
  induction s with
  | nil => simp
  | cons b s ih => simp [ih, BitVec.add_assoc]

@[simp] theorem sum8_replicate_zero (n : Nat) : sum8 (List.replicate n 0#8) = 0#8 := by
  induction n with
  | zero => rfl
  | succ n ih => rw [List.replicate_succ, sum8_cons, ih, BitVec.add_zero]

/-- The sum is the sum of the bytes' values modulo 256 (R92). -/
theorem sum8_toNat (s : List Byte) : (sum8 s).toNat = (s.map BitVec.toNat).sum % 256 := by
  induction s with
  | nil => rfl
  | cons b s ih => simp [BitVec.toNat_add, ih]

/-- Replacing one byte moves the sum by the difference (R96). -/
theorem sum8_set (f : List Byte) : ∀ (i : Nat) (v : Byte) (h : i < f.length),
    sum8 (f.set i v) + f[i] = sum8 f + v := by
  induction f with
  | nil => intro i v h; simp at h
  | cons b f ih =>
    intro i v h
    cases i with
    | zero => simp; ac_rfl
    | succ i =>
      have := ih i v (by simpa using h)
      simp only [List.set_cons_succ, sum8_cons, List.getElem_cons_succ, BitVec.add_assoc, this]

/-- The sum does not see the order of the bytes (R96 (c)). -/
theorem sum8_perm {s t : List Byte} (h : s.Perm t) : sum8 s = sum8 t := by
  induction h with
  | nil => rfl
  | cons b _ ih => simp [ih]
  | swap a b l => simp [← BitVec.add_assoc, BitVec.add_comm a b]
  | trans _ _ h1 h2 => exact h1.trans h2

@[simp] theorem covered_concat (s : List Byte) (b : Byte) : covered (s ++ [b]) = s := by
  simp [covered]

@[simp] theorem covered_length (f : List Byte) : (covered f).length = f.length - 1 := by
  simp [covered]

/-- A frame is closed exactly when it is a body followed by the body's sum. -/
theorem closed_iff (f : List Byte) : closed f = true ↔ ∃ s, f = s ++ [sum8 s] := by
  constructor
  · intro h
    have h : f.getLast? = some (sum8 (covered f)) := by simpa [closed] using h
    refine ⟨covered f, ?_⟩
    obtain ⟨l, b, rfl⟩ : ∃ l b, f = l ++ [b] := by
      rcases List.eq_nil_or_concat f with rfl | ⟨l, b, rfl⟩
      · simp at h
      · exact ⟨l, b, by simp⟩
    simp only [List.getLast?_concat, Option.some.injEq] at h
    simp only [covered_concat] at h ⊢
    rw [← h]
  · rintro ⟨s, rfl⟩
    simp [closed]

@[simp] theorem closed_concat (s : List Byte) (b : Byte) : closed (s ++ [b]) = (b == sum8 s) := by
  simp [closed]

theorem closed_ne_nil {f : List Byte} (h : closed f = true) : f ≠ [] := by
  rintro rfl; simp [closed] at h

theorem covered_eq_take (f : List Byte) : covered f = f.take (f.length - 1) := by
  simp [covered, List.dropLast_eq_take]

/-- `MATCH` over the covered sum is closedness. -/
theorem matchOf_sum8 (f : List Byte) : matchOf (sum8 (covered f)) f = closed f := rfl

end Sys2Proof
end

