-- ==== Sys2Proof/Laws/Operands.lean ====
section
/-! SUPPORT. Laws of operand assembly (30_encoding R66, R67; 20_memory R44, R48). -/

namespace Sys2Proof

@[simp] theorem offsetOf_hi_lo (o : Offset) : offsetOf (offsetHi o) (offsetLo o) = o := by
  apply BitVec.eq_of_toNat_eq
  simp only [offsetOf, offsetHi, offsetLo, BitVec.toNat_append, BitVec.extractLsb'_toNat,
    Nat.shiftRight_eq_div_pow, ← Nat.shiftLeft_add_eq_or_of_lt (Nat.mod_lt _ (by decide : 2 ^ 8 > 0))]
  have h := o.isLt
  simp only [Nat.shiftLeft_eq]
  omega

@[simp] theorem offsetHi_offsetOf (hi lo : Byte) : offsetHi (offsetOf hi lo) = hi := by
  apply BitVec.eq_of_toNat_eq
  simp only [offsetOf, offsetHi, BitVec.toNat_append, BitVec.extractLsb'_toNat, Nat.shiftRight_eq_div_pow,
    ← Nat.shiftLeft_add_eq_or_of_lt lo.isLt]
  have h := hi.isLt
  have h' := lo.isLt
  simp only [Nat.shiftLeft_eq]
  omega

@[simp] theorem offsetLo_offsetOf (hi lo : Byte) : offsetLo (offsetOf hi lo) = lo := by
  apply BitVec.eq_of_toNat_eq
  simp only [offsetOf, offsetLo, BitVec.toNat_append, BitVec.extractLsb'_toNat, Nat.shiftRight_zero,
    ← Nat.shiftLeft_add_eq_or_of_lt lo.isLt]
  have h := hi.isLt
  have h' := lo.isLt
  simp only [Nat.shiftLeft_eq]
  omega

theorem offsetHi_toNat (o : Offset) : (offsetHi o).toNat = o.toNat / 256 := by
  have h := o.isLt
  simp only [offsetHi, BitVec.extractLsb'_toNat, Nat.shiftRight_eq_div_pow]
  omega

theorem offsetLo_toNat (o : Offset) : (offsetLo o).toNat = o.toNat % 256 := by
  simp [offsetLo, BitVec.extractLsb'_toNat]

@[simp] theorem zeros_length (n : Nat) : (zeros n).length = n := by simp [zeros]

/-- Under the precondition, the chunk has exactly CLEN bytes (20_memory R48). -/
theorem chunkBytes_length (o : Offset) (fw : List Byte) :
    (chunkBytes o fw).length = chunkLength o fw.length := by
  simp only [chunkBytes, List.length_take, List.length_drop, chunkLength]
  omega

theorem chunkLength_le (o : Offset) (n : Nat) : chunkLength o n ≤ 128 := Nat.min_le_left _ _

/-- Storing a byte sequence over the middle of a frame replaces exactly that middle. -/
theorem putBytes_append (bs : List Byte) : ∀ (pre old post : List Byte), old.length = bs.length →
    putBytes (pre ++ old ++ post) pre.length bs = pre ++ bs ++ post := by
  induction bs with
  | nil => intro pre old post h; cases old <;> simp_all [putBytes]
  | cons b bs ih =>
    intro pre old post h
    cases old with
    | nil => simp at h
    | cons o old =>
      have h' : old.length = bs.length := by simpa using h
      have := ih (pre ++ [b]) old post h'
      simp only [List.length_append, List.length_cons, List.length_nil, List.append_assoc,
        List.cons_append, List.nil_append, Nat.zero_add] at this
      simp [putBytes, List.append_assoc, List.cons_append, this]

/-- The write frame before its checksum: header, real bytes, zero padding, a zero last byte (R63, R67). -/
theorem writeFields_eq (o : Offset) (fw : List Byte) :
    writeFields o fw =
      writeFrameBytes o (chunkBytes o fw ++ zeros (128 - chunkLength o fw.length)) 0 := by
  have hle := chunkLength_le o fw.length
  have hlen := chunkBytes_length o fw
  have hsplit : zeros 129 = zeros (chunkBytes o fw).length ++ zeros (129 - chunkLength o fw.length) := by
    rw [hlen]; simp only [zeros, ← List.replicate_add]; congr 1; omega
  have hpad : zeros (129 - chunkLength o fw.length) = zeros (128 - chunkLength o fw.length) ++ [0] := by
    simp only [zeros, ← List.replicate_succ']; congr 1; omega
  have hheader : (((zeros 132).set 0 Config.opWrite).set 1 (offsetHi o)).set 2 (offsetLo o)
      = [Config.opWrite, offsetHi o, offsetLo o] ++ zeros 129 := rfl
  have := putBytes_append (chunkBytes o fw) [Config.opWrite, offsetHi o, offsetLo o]
    (zeros (chunkBytes o fw).length) (zeros (129 - chunkLength o fw.length)) (zeros_length _)
  unfold writeFields
  simp only [hheader, hsplit]
  rw [← List.append_assoc]
  refine this.trans ?_
  simp [writeFrameBytes, hpad]

theorem readFields_eq (o : Offset) : readFields o = readFrameBytes o 0 := rfl

@[simp] theorem eraseFrame_length : eraseFrame.length = 5 := rfl

theorem writeFrameBytes_length (o : Offset) (p : List Byte) (ck : Byte) :
    (writeFrameBytes o p ck).length = p.length + 4 := by simp [writeFrameBytes]

theorem dataFrameBytes_length (e0 f e2 : Byte) (p : List Byte) (ck : Byte) :
    (dataFrameBytes e0 f e2 p ck).length = p.length + 4 := by simp [dataFrameBytes]

theorem requestLengthOk_iff (n : Nat) : requestLengthOk n = true ↔ n = 5 ∨ n = 132 ∨ n = 4 := by
  simp [requestLengthOk, or_assoc]

theorem responseLengthOk_iff (n : Nat) : responseLengthOk n = true ↔ n = 1 ∨ n = 132 := by
  simp [responseLengthOk]

/-- A request of the block has one of the three lengths (10_state R25). -/
theorem isRequest_length {f : List Byte} (h : isRequest f = true) : requestLengthOk f.length = true := by
  simp only [isRequest, Bool.or_eq_true, Bool.and_eq_true, beq_iff_eq] at h
  rcases h with (rfl | ⟨-, h⟩) | ⟨-, h⟩
  · rfl
  · rw [h]; rfl
  · rw [h]; rfl

theorem isRequest_writeFrameBytes (o : Offset) (p : List Byte) (ck : Byte) (h : p.length = 128) :
    isRequest (writeFrameBytes o p ck) = true := by
  simp [isRequest, writeFrameBytes, h]

theorem isRequest_readFrameBytes (o : Offset) (ck : Byte) : isRequest (readFrameBytes o ck) = true := by
  simp [isRequest, readFrameBytes]

/-- A request awaits one of the two response lengths (42_transport R118). -/
theorem responseLengthOk_awaited (f : List Byte) : responseLengthOk (awaited f) = true := by
  unfold awaited; split <;> rfl

theorem payloadOf_length {block : List Byte} (h : block.length = 132) : (payloadOf block).length = 128 := by
  simp only [payloadOf, List.length_take, List.length_drop, h]; rfl

end Sys2Proof
end

