-- ==== Sys2Proof/Laws/Memory.lean ====
section
/-! SUPPORT. Laws of the buffers: read after write, and every operation keeps the canonical form. -/

namespace Sys2Proof.Machine

@[simp] theorem Memory.read_nil (a : Nat) : Memory.read [] a = none := rfl

@[simp] theorem Memory.read_write_same (m : Memory) (a : Nat) (b : Byte) : (m.write a b).read a = some b := by
  induction m with
  | nil => simp [Memory.write, Memory.read]
  | cons c m ih =>
    obtain ⟨k, v⟩ := c
    simp only [Memory.write]
    split
    · simp [Memory.read]
    · split
      · simp [Memory.read]
      · rename_i h1 h2
        simp [Memory.read, h2, ih]

theorem Memory.read_write_other (m : Memory) (a c : Nat) (b : Byte) (h : c ≠ a) :
    (m.write a b).read c = m.read c := by
  induction m with
  | nil => simp [Memory.write, Memory.read, h]
  | cons x m ih =>
    obtain ⟨k, v⟩ := x
    simp only [Memory.write]
    split
    · simp [Memory.read, h]
    · split
      · rename_i h2; subst h2; simp [Memory.read, h]
      · simp only [Memory.read, ih]

/-- The canonical form of a list whose head is `c`: the rest is canonical and above `c`. -/
theorem Memory.wf_cons (c : Host.Cell) (m : Memory) :
    Memory.wf (c :: m) = true ↔ Memory.wf m = true ∧ ∀ d, m.head? = some d → c.1 < d.1 := by
  obtain ⟨a, v⟩ := c
  cases m with
  | nil => simp [Memory.wf]
  | cons d m => obtain ⟨b, w⟩ := d; simp [Memory.wf, and_comm]

theorem Memory.write_head (m : Memory) (a : Nat) (b : Byte) (k : Nat) (hk : k < a)
    (h : ∀ d, m.head? = some d → k < d.1) : ∀ d, (m.write a b).head? = some d → k < d.1 := by
  cases m with
  | nil => simp [Memory.write, hk]
  | cons x m =>
    obtain ⟨j, v⟩ := x
    simp only [Memory.write]
    split
    · simp [hk]
    · split
      · simp [hk]
      · simpa using h

theorem Memory.wf_write (m : Memory) (a : Nat) (b : Byte) (h : m.wf = true) : (m.write a b).wf = true := by
  induction m with
  | nil => rfl
  | cons x m ih =>
    obtain ⟨k, v⟩ := x
    have hx := (Memory.wf_cons _ _).mp h
    simp only [Memory.write]
    split
    · rename_i hlt
      exact (Memory.wf_cons _ _).mpr ⟨h, by simpa using hlt⟩
    · split
      · rename_i heq
        subst heq
        exact (Memory.wf_cons _ _).mpr hx
      · exact (Memory.wf_cons _ _).mpr ⟨ih hx.1, Memory.write_head m a b k (by omega) hx.2⟩

theorem Memory.wf_writeBytes (bs : List Byte) : ∀ (m : Memory) (a : Nat), m.wf = true →
    (m.writeBytes a bs).wf = true := by
  induction bs with
  | nil => intro m a h; exact h
  | cons b bs ih => intro m a h; exact ih _ _ (Memory.wf_write m a b h)

theorem Memory.wf_ofBytes (bs : List Byte) : (Memory.ofBytes bs).wf = true := Memory.wf_writeBytes bs [] 0 rfl

theorem Memory.read_writeBytes (bs : List Byte) : ∀ (m : Memory) (a c : Nat),
    (m.writeBytes a bs).read c = if a ≤ c ∧ c < a + bs.length then bs[c - a]? else m.read c := by
  induction bs with
  | nil => intro m a c; simp [Memory.writeBytes]
  | cons b bs ih =>
    intro m a c
    simp only [Memory.writeBytes, ih, List.length_cons]
    by_cases hc : c = a
    · subst hc; simp
    · rw [Memory.read_write_other m a c b hc]
      by_cases h : a + 1 ≤ c ∧ c < a + 1 + bs.length
      · have h' : a ≤ c ∧ c < a + (bs.length + 1) := by omega
        have e : c - a = (c - (a + 1)) + 1 := by omega
        rw [if_pos h, if_pos h', e, List.getElem?_cons_succ]
      · have h' : ¬(a ≤ c ∧ c < a + (bs.length + 1)) := by omega
        rw [if_neg h, if_neg h']

/-- A fresh buffer holds exactly the bytes put into it. -/
theorem Memory.read_ofBytes (bs : List Byte) (c : Nat) : (Memory.ofBytes bs).read c = bs[c]? := by
  simp only [Memory.ofBytes, Memory.read_writeBytes, Memory.read_nil]
  split
  · simp
  · rename_i h
    rw [List.getElem?_eq_none]; omega

theorem Memory.readBytes_of_read (m : Memory) (bs : List Byte) : ∀ a,
    (∀ i, i < bs.length → m.read (a + i) = bs[i]?) → m.readBytes a bs.length = some bs := by
  induction bs with
  | nil => intro a _; rfl
  | cons b bs ih =>
    intro a h
    have h0 := h 0 (by simp)
    have hr := ih (a + 1) (fun i hi => by
      have := h (i + 1) (by simpa using hi)
      rwa [List.getElem?_cons_succ, show a + (i + 1) = a + 1 + i by omega] at this)
    simp only [Nat.add_zero, List.getElem?_cons_zero] at h0
    simp [Memory.readBytes, h0, hr]

@[simp] theorem Memory.readBytes_ofBytes (bs : List Byte) :
    (Memory.ofBytes bs).readBytes 0 bs.length = some bs :=
  Memory.readBytes_of_read _ _ 0 (fun i _ => by rw [Nat.zero_add, Memory.read_ofBytes])

/-- The same with the length given. -/
theorem Memory.readBytes_ofBytes_of_length (bs : List Byte) {n : Nat} (h : bs.length = n) :
    (Memory.ofBytes bs).readBytes 0 n = some bs := by
  subst h; exact Memory.readBytes_ofBytes bs

end Sys2Proof.Machine
end

