-- ==== Sys2Proof/Laws/State.lean ====
section
/-! SUPPORT. One lemma per field per update: what each named update of State leaves in each field. -/

namespace Sys2Proof.Machine

variable (s : State)

/-! #### setKind -/

@[simp] theorem State.setKind_acc (k : Kind) : (s.setKind k).acc = s.acc := rfl
@[simp] theorem State.setKind_ofs (k : Kind) : (s.setKind k).ofs = s.ofs := rfl
@[simp] theorem State.setKind_clen (k : Kind) : (s.setKind k).clen = s.clen := rfl
@[simp] theorem State.setKind_kind (k : Kind) : (s.setKind k).kind = k := rfl
@[simp] theorem State.setKind_txbuf (k : Kind) : (s.setKind k).txbuf = s.txbuf := rfl
@[simp] theorem State.setKind_txlen (k : Kind) : (s.setKind k).txlen = s.txlen := rfl
@[simp] theorem State.setKind_rxbuf (k : Kind) : (s.setKind k).rxbuf = s.rxbuf := rfl
@[simp] theorem State.setKind_rxlen (k : Kind) : (s.setKind k).rxlen = s.rxlen := rfl
@[simp] theorem State.setKind_matchF (k : Kind) : (s.setKind k).matchF = s.matchF := rfl
@[simp] theorem State.setKind_eodF (k : Kind) : (s.setKind k).eodF = s.eodF := rfl
@[simp] theorem State.setKind_ackF (k : Kind) : (s.setKind k).ackF = s.ackF := rfl
@[simp] theorem State.setKind_portst (k : Kind) : (s.setKind k).portst = s.portst := rfl
@[simp] theorem State.setKind_phase (k : Kind) : (s.setKind k).phase = s.phase := rfl
@[simp] theorem State.setKind_result (k : Kind) : (s.setKind k).result = s.result := rfl
@[simp] theorem State.setKind_settings (k : Kind) : (s.setKind k).settings = s.settings := rfl
@[simp] theorem State.setKind_txs (k : Kind) : (s.setKind k).txs = s.txs := rfl
@[simp] theorem State.setKind_rxs (k : Kind) : (s.setKind k).rxs = s.rxs := rfl
@[simp] theorem State.setKind_pending (k : Kind) : (s.setKind k).pending = s.pending := rfl
@[simp] theorem State.setKind_env (k : Kind) : (s.setKind k).env = s.env := rfl
@[simp] theorem State.setKind_ret (k : Kind) : (s.setKind k).ret = s.ret := rfl
@[simp] theorem State.setKind_trail (k : Kind) : (s.setKind k).trail = s.trail := rfl

/-! #### setOfs -/

@[simp] theorem State.setOfs_acc (o : Offset) : (s.setOfs o).acc = s.acc := rfl
@[simp] theorem State.setOfs_ofs (o : Offset) : (s.setOfs o).ofs = o := rfl
@[simp] theorem State.setOfs_clen (o : Offset) : (s.setOfs o).clen = s.clen := rfl
@[simp] theorem State.setOfs_kind (o : Offset) : (s.setOfs o).kind = s.kind := rfl
@[simp] theorem State.setOfs_txbuf (o : Offset) : (s.setOfs o).txbuf = s.txbuf := rfl
@[simp] theorem State.setOfs_txlen (o : Offset) : (s.setOfs o).txlen = s.txlen := rfl
@[simp] theorem State.setOfs_rxbuf (o : Offset) : (s.setOfs o).rxbuf = s.rxbuf := rfl
@[simp] theorem State.setOfs_rxlen (o : Offset) : (s.setOfs o).rxlen = s.rxlen := rfl
@[simp] theorem State.setOfs_matchF (o : Offset) : (s.setOfs o).matchF = s.matchF := rfl
@[simp] theorem State.setOfs_eodF (o : Offset) : (s.setOfs o).eodF = s.eodF := rfl
@[simp] theorem State.setOfs_ackF (o : Offset) : (s.setOfs o).ackF = s.ackF := rfl
@[simp] theorem State.setOfs_portst (o : Offset) : (s.setOfs o).portst = s.portst := rfl
@[simp] theorem State.setOfs_phase (o : Offset) : (s.setOfs o).phase = s.phase := rfl
@[simp] theorem State.setOfs_result (o : Offset) : (s.setOfs o).result = s.result := rfl
@[simp] theorem State.setOfs_settings (o : Offset) : (s.setOfs o).settings = s.settings := rfl
@[simp] theorem State.setOfs_txs (o : Offset) : (s.setOfs o).txs = s.txs := rfl
@[simp] theorem State.setOfs_rxs (o : Offset) : (s.setOfs o).rxs = s.rxs := rfl
@[simp] theorem State.setOfs_pending (o : Offset) : (s.setOfs o).pending = s.pending := rfl
@[simp] theorem State.setOfs_env (o : Offset) : (s.setOfs o).env = s.env := rfl
@[simp] theorem State.setOfs_ret (o : Offset) : (s.setOfs o).ret = s.ret := rfl
@[simp] theorem State.setOfs_trail (o : Offset) : (s.setOfs o).trail = s.trail := rfl

/-! #### setClen -/

@[simp] theorem State.setClen_acc (o : Offset) (n : Nat) : (s.setClen o n).acc = s.acc := rfl
@[simp] theorem State.setClen_ofs (o : Offset) (n : Nat) : (s.setClen o n).ofs = s.ofs := rfl
@[simp] theorem State.setClen_clen (o : Offset) (n : Nat) : (s.setClen o n).clen = ⟨chunkLength o n, chunkLength_lt o n⟩ := rfl
@[simp] theorem State.setClen_kind (o : Offset) (n : Nat) : (s.setClen o n).kind = s.kind := rfl
@[simp] theorem State.setClen_txbuf (o : Offset) (n : Nat) : (s.setClen o n).txbuf = s.txbuf := rfl
@[simp] theorem State.setClen_txlen (o : Offset) (n : Nat) : (s.setClen o n).txlen = s.txlen := rfl
@[simp] theorem State.setClen_rxbuf (o : Offset) (n : Nat) : (s.setClen o n).rxbuf = s.rxbuf := rfl
@[simp] theorem State.setClen_rxlen (o : Offset) (n : Nat) : (s.setClen o n).rxlen = s.rxlen := rfl
@[simp] theorem State.setClen_matchF (o : Offset) (n : Nat) : (s.setClen o n).matchF = s.matchF := rfl
@[simp] theorem State.setClen_eodF (o : Offset) (n : Nat) : (s.setClen o n).eodF = s.eodF := rfl
@[simp] theorem State.setClen_ackF (o : Offset) (n : Nat) : (s.setClen o n).ackF = s.ackF := rfl
@[simp] theorem State.setClen_portst (o : Offset) (n : Nat) : (s.setClen o n).portst = s.portst := rfl
@[simp] theorem State.setClen_phase (o : Offset) (n : Nat) : (s.setClen o n).phase = s.phase := rfl
@[simp] theorem State.setClen_result (o : Offset) (n : Nat) : (s.setClen o n).result = s.result := rfl
@[simp] theorem State.setClen_settings (o : Offset) (n : Nat) : (s.setClen o n).settings = s.settings := rfl
@[simp] theorem State.setClen_txs (o : Offset) (n : Nat) : (s.setClen o n).txs = s.txs := rfl
@[simp] theorem State.setClen_rxs (o : Offset) (n : Nat) : (s.setClen o n).rxs = s.rxs := rfl
@[simp] theorem State.setClen_pending (o : Offset) (n : Nat) : (s.setClen o n).pending = s.pending := rfl
@[simp] theorem State.setClen_env (o : Offset) (n : Nat) : (s.setClen o n).env = s.env := rfl
@[simp] theorem State.setClen_ret (o : Offset) (n : Nat) : (s.setClen o n).ret = s.ret := rfl
@[simp] theorem State.setClen_trail (o : Offset) (n : Nat) : (s.setClen o n).trail = s.trail := rfl

/-! #### loadTx -/

@[simp] theorem State.loadTx_acc (f : List Byte) : (s.loadTx f).acc = s.acc := rfl
@[simp] theorem State.loadTx_ofs (f : List Byte) : (s.loadTx f).ofs = s.ofs := rfl
@[simp] theorem State.loadTx_clen (f : List Byte) : (s.loadTx f).clen = s.clen := rfl
@[simp] theorem State.loadTx_kind (f : List Byte) : (s.loadTx f).kind = s.kind := rfl
@[simp] theorem State.loadTx_txbuf (f : List Byte) : (s.loadTx f).txbuf = Memory.ofBytes f := rfl
@[simp] theorem State.loadTx_txlen (f : List Byte) : (s.loadTx f).txlen = f.length := rfl
@[simp] theorem State.loadTx_rxbuf (f : List Byte) : (s.loadTx f).rxbuf = s.rxbuf := rfl
@[simp] theorem State.loadTx_rxlen (f : List Byte) : (s.loadTx f).rxlen = s.rxlen := rfl
@[simp] theorem State.loadTx_matchF (f : List Byte) : (s.loadTx f).matchF = s.matchF := rfl
@[simp] theorem State.loadTx_eodF (f : List Byte) : (s.loadTx f).eodF = s.eodF := rfl
@[simp] theorem State.loadTx_ackF (f : List Byte) : (s.loadTx f).ackF = s.ackF := rfl
@[simp] theorem State.loadTx_portst (f : List Byte) : (s.loadTx f).portst = s.portst := rfl
@[simp] theorem State.loadTx_phase (f : List Byte) : (s.loadTx f).phase = s.phase := rfl
@[simp] theorem State.loadTx_result (f : List Byte) : (s.loadTx f).result = s.result := rfl
@[simp] theorem State.loadTx_settings (f : List Byte) : (s.loadTx f).settings = s.settings := rfl
@[simp] theorem State.loadTx_txs (f : List Byte) : (s.loadTx f).txs = s.txs := rfl
@[simp] theorem State.loadTx_rxs (f : List Byte) : (s.loadTx f).rxs = s.rxs := rfl
@[simp] theorem State.loadTx_pending (f : List Byte) : (s.loadTx f).pending = s.pending := rfl
@[simp] theorem State.loadTx_env (f : List Byte) : (s.loadTx f).env = s.env := rfl
@[simp] theorem State.loadTx_ret (f : List Byte) : (s.loadTx f).ret = s.ret := rfl
@[simp] theorem State.loadTx_trail (f : List Byte) : (s.loadTx f).trail = s.trail := rfl

/-! #### loadRx -/

@[simp] theorem State.loadRx_acc (f : List Byte) : (s.loadRx f).acc = s.acc := rfl
@[simp] theorem State.loadRx_ofs (f : List Byte) : (s.loadRx f).ofs = s.ofs := rfl
@[simp] theorem State.loadRx_clen (f : List Byte) : (s.loadRx f).clen = s.clen := rfl
@[simp] theorem State.loadRx_kind (f : List Byte) : (s.loadRx f).kind = s.kind := rfl
@[simp] theorem State.loadRx_txbuf (f : List Byte) : (s.loadRx f).txbuf = s.txbuf := rfl
@[simp] theorem State.loadRx_txlen (f : List Byte) : (s.loadRx f).txlen = s.txlen := rfl
@[simp] theorem State.loadRx_rxbuf (f : List Byte) : (s.loadRx f).rxbuf = Memory.ofBytes f := rfl
@[simp] theorem State.loadRx_rxlen (f : List Byte) : (s.loadRx f).rxlen = f.length := rfl
@[simp] theorem State.loadRx_matchF (f : List Byte) : (s.loadRx f).matchF = s.matchF := rfl
@[simp] theorem State.loadRx_eodF (f : List Byte) : (s.loadRx f).eodF = s.eodF := rfl
@[simp] theorem State.loadRx_ackF (f : List Byte) : (s.loadRx f).ackF = s.ackF := rfl
@[simp] theorem State.loadRx_portst (f : List Byte) : (s.loadRx f).portst = s.portst := rfl
@[simp] theorem State.loadRx_phase (f : List Byte) : (s.loadRx f).phase = s.phase := rfl
@[simp] theorem State.loadRx_result (f : List Byte) : (s.loadRx f).result = s.result := rfl
@[simp] theorem State.loadRx_settings (f : List Byte) : (s.loadRx f).settings = s.settings := rfl
@[simp] theorem State.loadRx_txs (f : List Byte) : (s.loadRx f).txs = s.txs := rfl
@[simp] theorem State.loadRx_rxs (f : List Byte) : (s.loadRx f).rxs = s.rxs ++ f := rfl
@[simp] theorem State.loadRx_pending (f : List Byte) : (s.loadRx f).pending = s.pending := rfl
@[simp] theorem State.loadRx_env (f : List Byte) : (s.loadRx f).env = s.env := rfl
@[simp] theorem State.loadRx_ret (f : List Byte) : (s.loadRx f).ret = s.ret := rfl
@[simp] theorem State.loadRx_trail (f : List Byte) : (s.loadRx f).trail = s.trail := rfl

/-! #### dropRx -/

@[simp] theorem State.dropRx_acc : (s.dropRx).acc = s.acc := rfl
@[simp] theorem State.dropRx_ofs : (s.dropRx).ofs = s.ofs := rfl
@[simp] theorem State.dropRx_clen : (s.dropRx).clen = s.clen := rfl
@[simp] theorem State.dropRx_kind : (s.dropRx).kind = s.kind := rfl
@[simp] theorem State.dropRx_txbuf : (s.dropRx).txbuf = s.txbuf := rfl
@[simp] theorem State.dropRx_txlen : (s.dropRx).txlen = s.txlen := rfl
@[simp] theorem State.dropRx_rxbuf : (s.dropRx).rxbuf = [] := rfl
@[simp] theorem State.dropRx_rxlen : (s.dropRx).rxlen = s.rxlen := rfl
@[simp] theorem State.dropRx_matchF : (s.dropRx).matchF = s.matchF := rfl
@[simp] theorem State.dropRx_eodF : (s.dropRx).eodF = s.eodF := rfl
@[simp] theorem State.dropRx_ackF : (s.dropRx).ackF = s.ackF := rfl
@[simp] theorem State.dropRx_portst : (s.dropRx).portst = s.portst := rfl
@[simp] theorem State.dropRx_phase : (s.dropRx).phase = s.phase := rfl
@[simp] theorem State.dropRx_result : (s.dropRx).result = s.result := rfl
@[simp] theorem State.dropRx_settings : (s.dropRx).settings = s.settings := rfl
@[simp] theorem State.dropRx_txs : (s.dropRx).txs = s.txs := rfl
@[simp] theorem State.dropRx_rxs : (s.dropRx).rxs = s.rxs := rfl
@[simp] theorem State.dropRx_pending : (s.dropRx).pending = s.pending := rfl
@[simp] theorem State.dropRx_env : (s.dropRx).env = s.env := rfl
@[simp] theorem State.dropRx_ret : (s.dropRx).ret = s.ret := rfl
@[simp] theorem State.dropRx_trail : (s.dropRx).trail = s.trail := rfl

/-! #### dropFrames -/

@[simp] theorem State.dropFrames_acc : (s.dropFrames).acc = s.acc := rfl
@[simp] theorem State.dropFrames_ofs : (s.dropFrames).ofs = s.ofs := rfl
@[simp] theorem State.dropFrames_clen : (s.dropFrames).clen = s.clen := rfl
@[simp] theorem State.dropFrames_kind : (s.dropFrames).kind = s.kind := rfl
@[simp] theorem State.dropFrames_txbuf : (s.dropFrames).txbuf = [] := rfl
@[simp] theorem State.dropFrames_txlen : (s.dropFrames).txlen = s.txlen := rfl
@[simp] theorem State.dropFrames_rxbuf : (s.dropFrames).rxbuf = [] := rfl
@[simp] theorem State.dropFrames_rxlen : (s.dropFrames).rxlen = s.rxlen := rfl
@[simp] theorem State.dropFrames_matchF : (s.dropFrames).matchF = s.matchF := rfl
@[simp] theorem State.dropFrames_eodF : (s.dropFrames).eodF = s.eodF := rfl
@[simp] theorem State.dropFrames_ackF : (s.dropFrames).ackF = s.ackF := rfl
@[simp] theorem State.dropFrames_portst : (s.dropFrames).portst = s.portst := rfl
@[simp] theorem State.dropFrames_phase : (s.dropFrames).phase = s.phase := rfl
@[simp] theorem State.dropFrames_result : (s.dropFrames).result = s.result := rfl
@[simp] theorem State.dropFrames_settings : (s.dropFrames).settings = s.settings := rfl
@[simp] theorem State.dropFrames_txs : (s.dropFrames).txs = s.txs := rfl
@[simp] theorem State.dropFrames_rxs : (s.dropFrames).rxs = s.rxs := rfl
@[simp] theorem State.dropFrames_pending : (s.dropFrames).pending = s.pending := rfl
@[simp] theorem State.dropFrames_env : (s.dropFrames).env = s.env := rfl
@[simp] theorem State.dropFrames_ret : (s.dropFrames).ret = s.ret := rfl
@[simp] theorem State.dropFrames_trail : (s.dropFrames).trail = s.trail := rfl

/-! #### send -/

@[simp] theorem State.send_acc (f : List Byte) : (s.send f).acc = s.acc := rfl
@[simp] theorem State.send_ofs (f : List Byte) : (s.send f).ofs = s.ofs := rfl
@[simp] theorem State.send_clen (f : List Byte) : (s.send f).clen = s.clen := rfl
@[simp] theorem State.send_kind (f : List Byte) : (s.send f).kind = s.kind := rfl
@[simp] theorem State.send_txbuf (f : List Byte) : (s.send f).txbuf = s.txbuf := rfl
@[simp] theorem State.send_txlen (f : List Byte) : (s.send f).txlen = s.txlen := rfl
@[simp] theorem State.send_rxbuf (f : List Byte) : (s.send f).rxbuf = s.rxbuf := rfl
@[simp] theorem State.send_rxlen (f : List Byte) : (s.send f).rxlen = s.rxlen := rfl
@[simp] theorem State.send_matchF (f : List Byte) : (s.send f).matchF = s.matchF := rfl
@[simp] theorem State.send_eodF (f : List Byte) : (s.send f).eodF = s.eodF := rfl
@[simp] theorem State.send_ackF (f : List Byte) : (s.send f).ackF = s.ackF := rfl
@[simp] theorem State.send_portst (f : List Byte) : (s.send f).portst = s.portst := rfl
@[simp] theorem State.send_phase (f : List Byte) : (s.send f).phase = s.phase := rfl
@[simp] theorem State.send_result (f : List Byte) : (s.send f).result = s.result := rfl
@[simp] theorem State.send_settings (f : List Byte) : (s.send f).settings = s.settings := rfl
@[simp] theorem State.send_txs (f : List Byte) : (s.send f).txs = s.txs ++ f := rfl
@[simp] theorem State.send_rxs (f : List Byte) : (s.send f).rxs = s.rxs := rfl
@[simp] theorem State.send_pending (f : List Byte) : (s.send f).pending = s.pending := rfl
@[simp] theorem State.send_env (f : List Byte) : (s.send f).env = s.env := rfl
@[simp] theorem State.send_ret (f : List Byte) : (s.send f).ret = s.ret := rfl
@[simp] theorem State.send_trail (f : List Byte) : (s.send f).trail = s.trail := rfl

/-! #### yielding -/

@[simp] theorem State.yielding_acc (y : Yield) : (s.yielding y).acc = s.acc := rfl
@[simp] theorem State.yielding_ofs (y : Yield) : (s.yielding y).ofs = s.ofs := rfl
@[simp] theorem State.yielding_clen (y : Yield) : (s.yielding y).clen = s.clen := rfl
@[simp] theorem State.yielding_kind (y : Yield) : (s.yielding y).kind = s.kind := rfl
@[simp] theorem State.yielding_txbuf (y : Yield) : (s.yielding y).txbuf = s.txbuf := rfl
@[simp] theorem State.yielding_txlen (y : Yield) : (s.yielding y).txlen = s.txlen := rfl
@[simp] theorem State.yielding_rxbuf (y : Yield) : (s.yielding y).rxbuf = s.rxbuf := rfl
@[simp] theorem State.yielding_rxlen (y : Yield) : (s.yielding y).rxlen = s.rxlen := rfl
@[simp] theorem State.yielding_matchF (y : Yield) : (s.yielding y).matchF = s.matchF := rfl
@[simp] theorem State.yielding_eodF (y : Yield) : (s.yielding y).eodF = s.eodF := rfl
@[simp] theorem State.yielding_ackF (y : Yield) : (s.yielding y).ackF = s.ackF := rfl
@[simp] theorem State.yielding_portst (y : Yield) : (s.yielding y).portst = s.portst := rfl
@[simp] theorem State.yielding_phase (y : Yield) : (s.yielding y).phase = s.phase := rfl
@[simp] theorem State.yielding_result (y : Yield) : (s.yielding y).result = s.result := rfl
@[simp] theorem State.yielding_settings (y : Yield) : (s.yielding y).settings = s.settings := rfl
@[simp] theorem State.yielding_txs (y : Yield) : (s.yielding y).txs = s.txs := rfl
@[simp] theorem State.yielding_rxs (y : Yield) : (s.yielding y).rxs = s.rxs := rfl
@[simp] theorem State.yielding_pending (y : Yield) : (s.yielding y).pending = s.pending := rfl
@[simp] theorem State.yielding_env (y : Yield) : (s.yielding y).env = s.env := rfl
@[simp] theorem State.yielding_ret (y : Yield) : (s.yielding y).ret = y := rfl
@[simp] theorem State.yielding_trail (y : Yield) : (s.yielding y).trail = s.trail := rfl

/-! #### enter -/

@[simp] theorem State.enter_acc (p : Phase) : (s.enter p).acc = s.acc := rfl
@[simp] theorem State.enter_ofs (p : Phase) : (s.enter p).ofs = s.ofs := rfl
@[simp] theorem State.enter_clen (p : Phase) : (s.enter p).clen = s.clen := rfl
@[simp] theorem State.enter_kind (p : Phase) : (s.enter p).kind = s.kind := rfl
@[simp] theorem State.enter_txbuf (p : Phase) : (s.enter p).txbuf = s.txbuf := rfl
@[simp] theorem State.enter_txlen (p : Phase) : (s.enter p).txlen = s.txlen := rfl
@[simp] theorem State.enter_rxbuf (p : Phase) : (s.enter p).rxbuf = s.rxbuf := rfl
@[simp] theorem State.enter_rxlen (p : Phase) : (s.enter p).rxlen = s.rxlen := rfl
@[simp] theorem State.enter_matchF (p : Phase) : (s.enter p).matchF = s.matchF := rfl
@[simp] theorem State.enter_eodF (p : Phase) : (s.enter p).eodF = s.eodF := rfl
@[simp] theorem State.enter_ackF (p : Phase) : (s.enter p).ackF = s.ackF := rfl
@[simp] theorem State.enter_portst (p : Phase) : (s.enter p).portst = s.portst := rfl
@[simp] theorem State.enter_phase (p : Phase) : (s.enter p).phase = p := rfl
@[simp] theorem State.enter_result (p : Phase) : (s.enter p).result = s.result := rfl
@[simp] theorem State.enter_settings (p : Phase) : (s.enter p).settings = s.settings := rfl
@[simp] theorem State.enter_txs (p : Phase) : (s.enter p).txs = s.txs := rfl
@[simp] theorem State.enter_rxs (p : Phase) : (s.enter p).rxs = s.rxs := rfl
@[simp] theorem State.enter_pending (p : Phase) : (s.enter p).pending = s.pending := rfl
@[simp] theorem State.enter_env (p : Phase) : (s.enter p).env = s.env := rfl
@[simp] theorem State.enter_ret (p : Phase) : (s.enter p).ret = s.ret := rfl
@[simp] theorem State.enter_trail (p : Phase) : (s.enter p).trail = s.trail ++ [p] := rfl

/-! #### begin -/

@[simp] theorem State.begin_acc : (s.begin).acc = s.acc := rfl
@[simp] theorem State.begin_ofs : (s.begin).ofs = s.ofs := rfl
@[simp] theorem State.begin_clen : (s.begin).clen = s.clen := rfl
@[simp] theorem State.begin_kind : (s.begin).kind = s.kind := rfl
@[simp] theorem State.begin_txbuf : (s.begin).txbuf = s.txbuf := rfl
@[simp] theorem State.begin_txlen : (s.begin).txlen = s.txlen := rfl
@[simp] theorem State.begin_rxbuf : (s.begin).rxbuf = s.rxbuf := rfl
@[simp] theorem State.begin_rxlen : (s.begin).rxlen = s.rxlen := rfl
@[simp] theorem State.begin_matchF : (s.begin).matchF = s.matchF := rfl
@[simp] theorem State.begin_eodF : (s.begin).eodF = s.eodF := rfl
@[simp] theorem State.begin_ackF : (s.begin).ackF = s.ackF := rfl
@[simp] theorem State.begin_portst : (s.begin).portst = s.portst := rfl
@[simp] theorem State.begin_phase : (s.begin).phase = s.phase := rfl
@[simp] theorem State.begin_result : (s.begin).result = s.result := rfl
@[simp] theorem State.begin_settings : (s.begin).settings = s.settings := rfl
@[simp] theorem State.begin_txs : (s.begin).txs = s.txs := rfl
@[simp] theorem State.begin_rxs : (s.begin).rxs = s.rxs := rfl
@[simp] theorem State.begin_pending : (s.begin).pending = s.pending := rfl
@[simp] theorem State.begin_env : (s.begin).env = s.env := rfl
@[simp] theorem State.begin_ret : (s.begin).ret = s.ret := rfl
@[simp] theorem State.begin_trail : (s.begin).trail = [] := rfl

/-! #### finish -/

@[simp] theorem State.finish_acc (r : Result) : (s.finish r).acc = s.acc := rfl
@[simp] theorem State.finish_ofs (r : Result) : (s.finish r).ofs = s.ofs := rfl
@[simp] theorem State.finish_clen (r : Result) : (s.finish r).clen = s.clen := rfl
@[simp] theorem State.finish_kind (r : Result) : (s.finish r).kind = s.kind := rfl
@[simp] theorem State.finish_txbuf (r : Result) : (s.finish r).txbuf = s.txbuf := rfl
@[simp] theorem State.finish_txlen (r : Result) : (s.finish r).txlen = s.txlen := rfl
@[simp] theorem State.finish_rxbuf (r : Result) : (s.finish r).rxbuf = s.rxbuf := rfl
@[simp] theorem State.finish_rxlen (r : Result) : (s.finish r).rxlen = s.rxlen := rfl
@[simp] theorem State.finish_matchF (r : Result) : (s.finish r).matchF = s.matchF := rfl
@[simp] theorem State.finish_eodF (r : Result) : (s.finish r).eodF = s.eodF := rfl
@[simp] theorem State.finish_ackF (r : Result) : (s.finish r).ackF = s.ackF := rfl
@[simp] theorem State.finish_portst (r : Result) : (s.finish r).portst = s.portst := rfl
@[simp] theorem State.finish_phase (r : Result) : (s.finish r).phase = .idle := rfl
@[simp] theorem State.finish_result (r : Result) : (s.finish r).result = some r := rfl
@[simp] theorem State.finish_settings (r : Result) : (s.finish r).settings = s.settings := rfl
@[simp] theorem State.finish_txs (r : Result) : (s.finish r).txs = s.txs := rfl
@[simp] theorem State.finish_rxs (r : Result) : (s.finish r).rxs = s.rxs := rfl
@[simp] theorem State.finish_pending (r : Result) : (s.finish r).pending = s.pending := rfl
@[simp] theorem State.finish_env (r : Result) : (s.finish r).env = s.env := rfl
@[simp] theorem State.finish_ret (r : Result) : (s.finish r).ret = .result r := rfl
@[simp] theorem State.finish_trail (r : Result) : (s.finish r).trail = s.trail ++ [.idle] := rfl

/-! #### closeHandle -/

@[simp] theorem State.closeHandle_acc : (s.closeHandle).acc = s.acc := rfl
@[simp] theorem State.closeHandle_ofs : (s.closeHandle).ofs = s.ofs := rfl
@[simp] theorem State.closeHandle_clen : (s.closeHandle).clen = s.clen := rfl
@[simp] theorem State.closeHandle_kind : (s.closeHandle).kind = s.kind := rfl
@[simp] theorem State.closeHandle_txbuf : (s.closeHandle).txbuf = s.txbuf := rfl
@[simp] theorem State.closeHandle_txlen : (s.closeHandle).txlen = s.txlen := rfl
@[simp] theorem State.closeHandle_rxbuf : (s.closeHandle).rxbuf = s.rxbuf := rfl
@[simp] theorem State.closeHandle_rxlen : (s.closeHandle).rxlen = s.rxlen := rfl
@[simp] theorem State.closeHandle_matchF : (s.closeHandle).matchF = s.matchF := rfl
@[simp] theorem State.closeHandle_eodF : (s.closeHandle).eodF = s.eodF := rfl
@[simp] theorem State.closeHandle_ackF : (s.closeHandle).ackF = s.ackF := rfl
@[simp] theorem State.closeHandle_portst : (s.closeHandle).portst = .closed := rfl
@[simp] theorem State.closeHandle_phase : (s.closeHandle).phase = s.phase := rfl
@[simp] theorem State.closeHandle_result : (s.closeHandle).result = s.result := rfl
@[simp] theorem State.closeHandle_settings : (s.closeHandle).settings = s.settings := rfl
@[simp] theorem State.closeHandle_txs : (s.closeHandle).txs = s.txs := rfl
@[simp] theorem State.closeHandle_rxs : (s.closeHandle).rxs = s.rxs := rfl
@[simp] theorem State.closeHandle_pending : (s.closeHandle).pending = s.pending := rfl
@[simp] theorem State.closeHandle_env : (s.closeHandle).env = s.env := rfl
@[simp] theorem State.closeHandle_ret : (s.closeHandle).ret = s.ret := rfl
@[simp] theorem State.closeHandle_trail : (s.closeHandle).trail = s.trail := rfl

/-! #### takeFault -/

@[simp] theorem State.takeFault_acc (f : CallFault) : (s.takeFault f).acc = s.acc := rfl
@[simp] theorem State.takeFault_ofs (f : CallFault) : (s.takeFault f).ofs = s.ofs := rfl
@[simp] theorem State.takeFault_clen (f : CallFault) : (s.takeFault f).clen = s.clen := rfl
@[simp] theorem State.takeFault_kind (f : CallFault) : (s.takeFault f).kind = s.kind := rfl
@[simp] theorem State.takeFault_txbuf (f : CallFault) : (s.takeFault f).txbuf = s.txbuf := rfl
@[simp] theorem State.takeFault_txlen (f : CallFault) : (s.takeFault f).txlen = s.txlen := rfl
@[simp] theorem State.takeFault_rxbuf (f : CallFault) : (s.takeFault f).rxbuf = s.rxbuf := rfl
@[simp] theorem State.takeFault_rxlen (f : CallFault) : (s.takeFault f).rxlen = s.rxlen := rfl
@[simp] theorem State.takeFault_matchF (f : CallFault) : (s.takeFault f).matchF = s.matchF := rfl
@[simp] theorem State.takeFault_eodF (f : CallFault) : (s.takeFault f).eodF = s.eodF := rfl
@[simp] theorem State.takeFault_ackF (f : CallFault) : (s.takeFault f).ackF = s.ackF := rfl
@[simp] theorem State.takeFault_portst (f : CallFault) : (s.takeFault f).portst = .closed := rfl
@[simp] theorem State.takeFault_phase (f : CallFault) : (s.takeFault f).phase = .idle := rfl
@[simp] theorem State.takeFault_result (f : CallFault) : (s.takeFault f).result = some (.fault f) := rfl
@[simp] theorem State.takeFault_settings (f : CallFault) : (s.takeFault f).settings = s.settings := rfl
@[simp] theorem State.takeFault_txs (f : CallFault) : (s.takeFault f).txs = s.txs := rfl
@[simp] theorem State.takeFault_rxs (f : CallFault) : (s.takeFault f).rxs = s.rxs := rfl
@[simp] theorem State.takeFault_pending (f : CallFault) : (s.takeFault f).pending = s.pending := rfl
@[simp] theorem State.takeFault_env (f : CallFault) : (s.takeFault f).env = s.env := rfl
@[simp] theorem State.takeFault_ret (f : CallFault) : (s.takeFault f).ret = .result (.fault f) := rfl
@[simp] theorem State.takeFault_trail (f : CallFault) : (s.takeFault f).trail = s.trail ++ [.idle] := rfl

/-! #### startCall -/

@[simp] theorem State.startCall_acc (k : Kind) : (s.startCall k).acc = s.acc := rfl
@[simp] theorem State.startCall_ofs (k : Kind) : (s.startCall k).ofs = s.ofs := rfl
@[simp] theorem State.startCall_clen (k : Kind) : (s.startCall k).clen = s.clen := rfl
@[simp] theorem State.startCall_kind (k : Kind) : (s.startCall k).kind = k := rfl
@[simp] theorem State.startCall_txbuf (k : Kind) : (s.startCall k).txbuf = [] := rfl
@[simp] theorem State.startCall_txlen (k : Kind) : (s.startCall k).txlen = s.txlen := rfl
@[simp] theorem State.startCall_rxbuf (k : Kind) : (s.startCall k).rxbuf = [] := rfl
@[simp] theorem State.startCall_rxlen (k : Kind) : (s.startCall k).rxlen = s.rxlen := rfl
@[simp] theorem State.startCall_matchF (k : Kind) : (s.startCall k).matchF = s.matchF := rfl
@[simp] theorem State.startCall_eodF (k : Kind) : (s.startCall k).eodF = s.eodF := rfl
@[simp] theorem State.startCall_ackF (k : Kind) : (s.startCall k).ackF = s.ackF := rfl
@[simp] theorem State.startCall_portst (k : Kind) : (s.startCall k).portst = s.portst := rfl
@[simp] theorem State.startCall_phase (k : Kind) : (s.startCall k).phase = .build := rfl
@[simp] theorem State.startCall_result (k : Kind) : (s.startCall k).result = none := rfl
@[simp] theorem State.startCall_settings (k : Kind) : (s.startCall k).settings = s.settings := rfl
@[simp] theorem State.startCall_txs (k : Kind) : (s.startCall k).txs = s.txs := rfl
@[simp] theorem State.startCall_rxs (k : Kind) : (s.startCall k).rxs = s.rxs := rfl
@[simp] theorem State.startCall_pending (k : Kind) : (s.startCall k).pending = s.pending := rfl
@[simp] theorem State.startCall_env (k : Kind) : (s.startCall k).env = s.env := rfl
@[simp] theorem State.startCall_ret (k : Kind) : (s.startCall k).ret = s.ret := rfl
@[simp] theorem State.startCall_trail (k : Kind) : (s.startCall k).trail = [.build] := rfl

/-! #### csumClear -/

@[simp] theorem State.csumClear_acc : (s.csumClear).acc = 0 := rfl
@[simp] theorem State.csumClear_ofs : (s.csumClear).ofs = s.ofs := rfl
@[simp] theorem State.csumClear_clen : (s.csumClear).clen = s.clen := rfl
@[simp] theorem State.csumClear_kind : (s.csumClear).kind = s.kind := rfl
@[simp] theorem State.csumClear_txbuf : (s.csumClear).txbuf = s.txbuf := rfl
@[simp] theorem State.csumClear_txlen : (s.csumClear).txlen = s.txlen := rfl
@[simp] theorem State.csumClear_rxbuf : (s.csumClear).rxbuf = s.rxbuf := rfl
@[simp] theorem State.csumClear_rxlen : (s.csumClear).rxlen = s.rxlen := rfl
@[simp] theorem State.csumClear_matchF : (s.csumClear).matchF = s.matchF := rfl
@[simp] theorem State.csumClear_eodF : (s.csumClear).eodF = s.eodF := rfl
@[simp] theorem State.csumClear_ackF : (s.csumClear).ackF = s.ackF := rfl
@[simp] theorem State.csumClear_portst : (s.csumClear).portst = s.portst := rfl
@[simp] theorem State.csumClear_phase : (s.csumClear).phase = s.phase := rfl
@[simp] theorem State.csumClear_result : (s.csumClear).result = s.result := rfl
@[simp] theorem State.csumClear_settings : (s.csumClear).settings = s.settings := rfl
@[simp] theorem State.csumClear_txs : (s.csumClear).txs = s.txs := rfl
@[simp] theorem State.csumClear_rxs : (s.csumClear).rxs = s.rxs := rfl
@[simp] theorem State.csumClear_pending : (s.csumClear).pending = s.pending := rfl
@[simp] theorem State.csumClear_env : (s.csumClear).env = s.env := rfl
@[simp] theorem State.csumClear_ret : (s.csumClear).ret = s.ret := rfl
@[simp] theorem State.csumClear_trail : (s.csumClear).trail = s.trail := rfl

/-! #### csumAdd -/

@[simp] theorem State.csumAdd_acc (b : Byte) : (s.csumAdd b).acc = s.acc + b := rfl
@[simp] theorem State.csumAdd_ofs (b : Byte) : (s.csumAdd b).ofs = s.ofs := rfl
@[simp] theorem State.csumAdd_clen (b : Byte) : (s.csumAdd b).clen = s.clen := rfl
@[simp] theorem State.csumAdd_kind (b : Byte) : (s.csumAdd b).kind = s.kind := rfl
@[simp] theorem State.csumAdd_txbuf (b : Byte) : (s.csumAdd b).txbuf = s.txbuf := rfl
@[simp] theorem State.csumAdd_txlen (b : Byte) : (s.csumAdd b).txlen = s.txlen := rfl
@[simp] theorem State.csumAdd_rxbuf (b : Byte) : (s.csumAdd b).rxbuf = s.rxbuf := rfl
@[simp] theorem State.csumAdd_rxlen (b : Byte) : (s.csumAdd b).rxlen = s.rxlen := rfl
@[simp] theorem State.csumAdd_matchF (b : Byte) : (s.csumAdd b).matchF = s.matchF := rfl
@[simp] theorem State.csumAdd_eodF (b : Byte) : (s.csumAdd b).eodF = s.eodF := rfl
@[simp] theorem State.csumAdd_ackF (b : Byte) : (s.csumAdd b).ackF = s.ackF := rfl
@[simp] theorem State.csumAdd_portst (b : Byte) : (s.csumAdd b).portst = s.portst := rfl
@[simp] theorem State.csumAdd_phase (b : Byte) : (s.csumAdd b).phase = s.phase := rfl
@[simp] theorem State.csumAdd_result (b : Byte) : (s.csumAdd b).result = s.result := rfl
@[simp] theorem State.csumAdd_settings (b : Byte) : (s.csumAdd b).settings = s.settings := rfl
@[simp] theorem State.csumAdd_txs (b : Byte) : (s.csumAdd b).txs = s.txs := rfl
@[simp] theorem State.csumAdd_rxs (b : Byte) : (s.csumAdd b).rxs = s.rxs := rfl
@[simp] theorem State.csumAdd_pending (b : Byte) : (s.csumAdd b).pending = s.pending := rfl
@[simp] theorem State.csumAdd_env (b : Byte) : (s.csumAdd b).env = s.env := rfl
@[simp] theorem State.csumAdd_ret (b : Byte) : (s.csumAdd b).ret = s.ret := rfl
@[simp] theorem State.csumAdd_trail (b : Byte) : (s.csumAdd b).trail = s.trail := rfl

/-! #### dequeue -/

@[simp] theorem State.dequeue_acc : (s.dequeue).acc = s.acc := rfl
@[simp] theorem State.dequeue_ofs : (s.dequeue).ofs = s.ofs := rfl
@[simp] theorem State.dequeue_clen : (s.dequeue).clen = s.clen := rfl
@[simp] theorem State.dequeue_kind : (s.dequeue).kind = s.kind := rfl
@[simp] theorem State.dequeue_txbuf : (s.dequeue).txbuf = s.txbuf := rfl
@[simp] theorem State.dequeue_txlen : (s.dequeue).txlen = s.txlen := rfl
@[simp] theorem State.dequeue_rxbuf : (s.dequeue).rxbuf = s.rxbuf := rfl
@[simp] theorem State.dequeue_rxlen : (s.dequeue).rxlen = s.rxlen := rfl
@[simp] theorem State.dequeue_matchF : (s.dequeue).matchF = s.matchF := rfl
@[simp] theorem State.dequeue_eodF : (s.dequeue).eodF = s.eodF := rfl
@[simp] theorem State.dequeue_ackF : (s.dequeue).ackF = s.ackF := rfl
@[simp] theorem State.dequeue_portst : (s.dequeue).portst = s.portst := rfl
@[simp] theorem State.dequeue_phase : (s.dequeue).phase = s.phase := rfl
@[simp] theorem State.dequeue_result : (s.dequeue).result = s.result := rfl
@[simp] theorem State.dequeue_settings : (s.dequeue).settings = s.settings := rfl
@[simp] theorem State.dequeue_txs : (s.dequeue).txs = s.txs := rfl
@[simp] theorem State.dequeue_rxs : (s.dequeue).rxs = s.rxs := rfl
@[simp] theorem State.dequeue_pending : (s.dequeue).pending = s.pending.tail := rfl
@[simp] theorem State.dequeue_env : (s.dequeue).env = s.env := rfl
@[simp] theorem State.dequeue_ret : (s.dequeue).ret = s.ret := rfl
@[simp] theorem State.dequeue_trail : (s.dequeue).trail = s.trail := rfl

/-! #### enqueue -/

@[simp] theorem State.enqueue_acc (p : Pending) : (s.enqueue p).acc = s.acc := rfl
@[simp] theorem State.enqueue_ofs (p : Pending) : (s.enqueue p).ofs = s.ofs := rfl
@[simp] theorem State.enqueue_clen (p : Pending) : (s.enqueue p).clen = s.clen := rfl
@[simp] theorem State.enqueue_kind (p : Pending) : (s.enqueue p).kind = s.kind := rfl
@[simp] theorem State.enqueue_txbuf (p : Pending) : (s.enqueue p).txbuf = s.txbuf := rfl
@[simp] theorem State.enqueue_txlen (p : Pending) : (s.enqueue p).txlen = s.txlen := rfl
@[simp] theorem State.enqueue_rxbuf (p : Pending) : (s.enqueue p).rxbuf = s.rxbuf := rfl
@[simp] theorem State.enqueue_rxlen (p : Pending) : (s.enqueue p).rxlen = s.rxlen := rfl
@[simp] theorem State.enqueue_matchF (p : Pending) : (s.enqueue p).matchF = s.matchF := rfl
@[simp] theorem State.enqueue_eodF (p : Pending) : (s.enqueue p).eodF = s.eodF := rfl
@[simp] theorem State.enqueue_ackF (p : Pending) : (s.enqueue p).ackF = s.ackF := rfl
@[simp] theorem State.enqueue_portst (p : Pending) : (s.enqueue p).portst = s.portst := rfl
@[simp] theorem State.enqueue_phase (p : Pending) : (s.enqueue p).phase = s.phase := rfl
@[simp] theorem State.enqueue_result (p : Pending) : (s.enqueue p).result = s.result := rfl
@[simp] theorem State.enqueue_settings (p : Pending) : (s.enqueue p).settings = s.settings := rfl
@[simp] theorem State.enqueue_txs (p : Pending) : (s.enqueue p).txs = s.txs := rfl
@[simp] theorem State.enqueue_rxs (p : Pending) : (s.enqueue p).rxs = s.rxs := rfl
@[simp] theorem State.enqueue_pending (p : Pending) : (s.enqueue p).pending = p :: s.pending := rfl
@[simp] theorem State.enqueue_env (p : Pending) : (s.enqueue p).env = s.env := rfl
@[simp] theorem State.enqueue_ret (p : Pending) : (s.enqueue p).ret = s.ret := rfl
@[simp] theorem State.enqueue_trail (p : Pending) : (s.enqueue p).trail = s.trail := rfl

/-! #### reachIdle -/

@[simp] theorem State.reachIdle_acc : s.reachIdle.acc = s.acc := by unfold State.reachIdle; split <;> rfl
@[simp] theorem State.reachIdle_ofs : s.reachIdle.ofs = s.ofs := by unfold State.reachIdle; split <;> rfl
@[simp] theorem State.reachIdle_clen : s.reachIdle.clen = s.clen := by unfold State.reachIdle; split <;> rfl
@[simp] theorem State.reachIdle_kind : s.reachIdle.kind = s.kind := by unfold State.reachIdle; split <;> rfl
@[simp] theorem State.reachIdle_txbuf : s.reachIdle.txbuf = s.txbuf := by unfold State.reachIdle; split <;> rfl
@[simp] theorem State.reachIdle_txlen : s.reachIdle.txlen = s.txlen := by unfold State.reachIdle; split <;> rfl
@[simp] theorem State.reachIdle_rxbuf : s.reachIdle.rxbuf = s.rxbuf := by unfold State.reachIdle; split <;> rfl
@[simp] theorem State.reachIdle_rxlen : s.reachIdle.rxlen = s.rxlen := by unfold State.reachIdle; split <;> rfl
@[simp] theorem State.reachIdle_matchF : s.reachIdle.matchF = s.matchF := by unfold State.reachIdle; split <;> rfl
@[simp] theorem State.reachIdle_eodF : s.reachIdle.eodF = s.eodF := by unfold State.reachIdle; split <;> rfl
@[simp] theorem State.reachIdle_ackF : s.reachIdle.ackF = s.ackF := by unfold State.reachIdle; split <;> rfl
@[simp] theorem State.reachIdle_portst : s.reachIdle.portst = s.portst := by unfold State.reachIdle; split <;> rfl
@[simp] theorem State.reachIdle_result : s.reachIdle.result = s.result := by unfold State.reachIdle; split <;> rfl
@[simp] theorem State.reachIdle_settings : s.reachIdle.settings = s.settings := by unfold State.reachIdle; split <;> rfl
@[simp] theorem State.reachIdle_txs : s.reachIdle.txs = s.txs := by unfold State.reachIdle; split <;> rfl
@[simp] theorem State.reachIdle_rxs : s.reachIdle.rxs = s.rxs := by unfold State.reachIdle; split <;> rfl
@[simp] theorem State.reachIdle_pending : s.reachIdle.pending = s.pending := by unfold State.reachIdle; split <;> rfl
@[simp] theorem State.reachIdle_env : s.reachIdle.env = s.env := by unfold State.reachIdle; split <;> rfl
@[simp] theorem State.reachIdle_ret : s.reachIdle.ret = s.ret := by unfold State.reachIdle; split <;> rfl
@[simp] theorem State.reachIdle_phase : s.reachIdle.phase = .idle := by unfold State.reachIdle; split <;> simp_all

/-! #### The buffers read back (10_state R25, R26) -/

@[simp] theorem State.txFrame_loadTx (f : List Byte) : (s.loadTx f).txFrame = some f := Memory.readBytes_ofBytes f
@[simp] theorem State.rxBytes_loadRx (f : List Byte) : (s.loadRx f).rxBytes = some f := Memory.readBytes_ofBytes f
@[simp] theorem State.txFrame_yielding (y : Yield) : (s.yielding y).txFrame = s.txFrame := rfl
@[simp] theorem State.rxBytes_yielding (y : Yield) : (s.yielding y).rxBytes = s.rxBytes := rfl

end Sys2Proof.Machine
end

