-- ==== Sys2Proof/Laws/Csu.lean ====
section
/-! SUPPORT. What the Checksum Unit's shared operations do (40_checksum R92 to R94). -/

namespace Sys2Proof.Machine

/-- CLR and one ADD for each byte leave the sum in ACC and nothing else changed (R92). -/
theorem csumOver_eq (bs : List Byte) (s : State) : s.csumOver bs = { s with acc := sum8 bs } := by
  induction bs using List.reverseRecOn with
  | nil => rfl
  | append_singleton bs b ih =>
    have h : s.csumOver (bs ++ [b]) = (s.csumOver bs).csumAdd b := by simp [State.csumOver, List.foldl_append]
    rw [h, ih, sum8_concat]; rfl

/-- `compute` puts the sum of the covered bytes last and leaves it in ACC (R93). -/
theorem computeOn_eq (frame : List Byte) (s : State) :
    computeOn frame s =
      (covered frame ++ [sum8 (covered frame)], { s with acc := sum8 (covered frame) }) := by
  simp [computeOn, csumOver_eq, withLast]

/-- `verify` compares the sum of the covered bytes with the last byte (R94). -/
theorem verifyOn_eq (frame : List Byte) (s : State) :
    verifyOn frame s =
      (closed frame, { s with acc := sum8 (covered frame), matchF := closed frame }) := by
  simp [verifyOn, csumOver_eq, matchOf_sum8]

/-- A builder's last act: the closed frame, in TXBUF, its sum in ACC (41 R104). -/
theorem computeOn_closed (frame : List Byte) (s : State) : closed (computeOn frame s).1 = true := by
  simp [computeOn_eq]

end Sys2Proof.Machine
end

