-- ==== Sys2Proof/Laws/Fmt.lean ====
section
/-! SUPPORT. What the builders do (41_frame_builder R100 to R104). -/

namespace Sys2Proof.Machine

/-- The frame a builder returns for given fields: the fields with the sum of all but the last as the last byte. -/
theorem closeInto_eq (fields : List Byte) (s : State) :
    closeInto fields s =
      (covered fields ++ [sum8 (covered fields)],
        ({ s with acc := sum8 (covered fields) } : State).loadTx (covered fields ++ [sum8 (covered fields)])) := by
  simp [closeInto, computeOn_eq]

theorem closeInto_closed (fields : List Byte) (s : State) : closed (closeInto fields s).1 = true := by
  simp [closeInto_eq]

theorem closeInto_length (fields : List Byte) (s : State) (h : 0 < fields.length) :
    (closeInto fields s).1.length = fields.length := by
  simp [closeInto_eq]; omega

/-- The builder's erase frame is the constant of the format (R62, R101). -/
theorem buildEraseOn_eq (s : State) :
    buildEraseOn s = (eraseFrame, ({ s with acc := 0x8E, kind := .erase } : State).loadTx eraseFrame) := by
  have hc : covered eraseFields = [0x39, 0, 0, 0x55] := by decide
  have hs : sum8 [0x39, 0, 0, 0x55] = 0x8E := by decide
  simp only [buildEraseOn, closeInto_eq, hc, hs]
  rfl

/-- The read frame (R103). -/
theorem buildReadOn_eq (o : Offset) (s : State) :
    buildReadOn o s =
      (readFrameBytes o (0x52 + offsetHi o + offsetLo o),
        ({ s with acc := 0x52 + offsetHi o + offsetLo o, kind := .read, ofs := o } : State).loadTx
          (readFrameBytes o (0x52 + offsetHi o + offsetLo o))) := by
  have h : sum8 [Config.opRead, offsetHi o, offsetLo o] = 0x52 + offsetHi o + offsetLo o := by
    simp [BitVec.add_assoc]
  simp only [buildReadOn, closeInto_eq, readFields_eq]
  simp only [covered, readFrameBytes, List.dropLast, h]
  rfl

/-- The checksum of a write frame: the sum of opcode, offset and payload (R65, R102). -/
def writeSum (o : Offset) (p : List Byte) : Byte := sum8 (Config.opWrite :: offsetHi o :: offsetLo o :: p)

/-- The payload of a write frame: the chunk's real bytes and its zero padding (R67). -/
def paddedChunk (o : Offset) (fw : List Byte) : List Byte :=
  chunkBytes o fw ++ zeros (128 - chunkLength o fw.length)

theorem paddedChunk_length (o : Offset) (fw : List Byte) : (paddedChunk o fw).length = 128 := by
  have := chunkLength_le o fw.length
  simp [paddedChunk, chunkBytes_length]; omega

theorem closed_writeFrameBytes (o : Offset) (p : List Byte) (ck : Byte) :
    closed (writeFrameBytes o p ck) = (ck == writeSum o p) := by
  have h : writeFrameBytes o p ck = (Config.opWrite :: offsetHi o :: offsetLo o :: p) ++ [ck] := by
    simp [writeFrameBytes]
  rw [h, closed_concat, writeSum]

theorem closed_readFrameBytes (o : Offset) (ck : Byte) :
    closed (readFrameBytes o ck) = (ck == 0x52 + offsetHi o + offsetLo o) := by
  have h : readFrameBytes o ck = [Config.opRead, offsetHi o, offsetLo o] ++ [ck] := rfl
  rw [h, closed_concat]; simp [BitVec.add_assoc]

/-- The erase frame is closed: its fifth byte is the sum of the four before it (R62). -/
theorem closed_eraseFrame : closed eraseFrame = true := by decide

/-- The write frame, under the precondition (R102). -/
theorem buildWriteOn_ok (o : Offset) (fw : List Byte) (s : State) (h : o.toNat ≤ fw.length) :
    buildWriteOn o fw s =
      .ok (writeFrameBytes o (paddedChunk o fw) (writeSum o (paddedChunk o fw)))
        (({ s with
            acc := writeSum o (paddedChunk o fw), kind := .write, ofs := o
            clen := ⟨chunkLength o fw.length, chunkLength_lt o fw.length⟩ } : State).loadTx
          (writeFrameBytes o (paddedChunk o fw) (writeSum o (paddedChunk o fw)))) := by
  have hcov : covered (writeFields o fw) = Config.opWrite :: offsetHi o :: offsetLo o :: paddedChunk o fw := by
    have : writeFields o fw = (Config.opWrite :: offsetHi o :: offsetLo o :: paddedChunk o fw) ++ [0] := by
      simp [writeFields_eq, writeFrameBytes, paddedChunk]
    rw [this, covered_concat]
  have hnot : ¬ fw.length < o.toNat := by omega
  simp only [buildWriteOn, if_neg hnot, closeInto_eq, hcov]
  rfl

/-- Past the image's end nothing is built (R102, R144). -/
theorem buildWriteOn_raised (o : Offset) (fw : List Byte) (s : State) (h : fw.length < o.toNat) :
    buildWriteOn o fw s = .raised (.indexOutOfRange o fw.length) s := by
  simp [buildWriteOn, h]

/-! ### A builder on its own (log 9) -/

theorem buildAlone_ok (build : State → Flow (List Byte)) (s t : State) (frame : List Byte) (h : s.phase = .idle)
    (hb : build (s.begin.enter .build) = .ok frame t) :
    buildAlone build s = .next ((t.enter .idle).yielding (.bytes frame)) := by
  simp only [buildAlone, h, if_true, hb, Flow.settle]

theorem buildAlone_raised (build : State → Flow (List Byte)) (s t : State) (f : CallFault) (h : s.phase = .idle)
    (hb : build (s.begin.enter .build) = .raised f t) : buildAlone build s = .next (t.takeFault f) := by
  simp only [buildAlone, h, if_true, hb, Flow.settle]

/-- A builder's next state comes from IDLE, by its frame or by its fault. -/
theorem buildAlone_next (build : State → Flow (List Byte)) (s u : State) (h : buildAlone build s = .next u) :
    s.phase = .idle ∧
      ((∃ frame t, build (s.begin.enter .build) = .ok frame t ∧ u = (t.enter .idle).yielding (.bytes frame)) ∨
        ∃ f t, build (s.begin.enter .build) = .raised f t ∧ u = t.takeFault f) := by
  by_cases hp : s.phase = .idle
  · refine ⟨hp, ?_⟩
    cases hb : build (s.begin.enter .build) with
    | ok frame t => rw [buildAlone_ok _ _ _ _ hp hb] at h; cases h; exact .inl ⟨_, _, rfl, rfl⟩
    | raised f t => rw [buildAlone_raised _ _ _ _ hp hb] at h; cases h; exact .inr ⟨_, _, rfl, rfl⟩
  · simp [buildAlone, hp] at h

/-- `build_erase` on its own, from IDLE. -/
theorem execBuildErase_idle (s : State) (h : s.phase = .idle) :
    execBuildErase s =
      .next (((({ s.begin.enter .build with acc := 0x8E, kind := .erase } : State).loadTx eraseFrame).enter .idle).yielding
        (.bytes eraseFrame)) :=
  buildAlone_ok _ _ _ _ h (by rw [buildEraseOn_eq])

/-- `build_read_chunk` on its own, from IDLE. -/
theorem execBuildReadChunk_idle (o : Offset) (s : State) (h : s.phase = .idle) :
    execBuildReadChunk o s =
      .next (((({ s.begin.enter .build with acc := 0x52 + offsetHi o + offsetLo o, kind := .read, ofs := o } : State).loadTx
        (readFrameBytes o (0x52 + offsetHi o + offsetLo o))).enter .idle).yielding
          (.bytes (readFrameBytes o (0x52 + offsetHi o + offsetLo o)))) :=
  buildAlone_ok _ _ _ _ h (by rw [buildReadOn_eq])

end Sys2Proof.Machine
end

