-- ==== Sys2Proof/Laws/Interp.lean ====
section
/-! SUPPORT. What the Response Interpreter does (43_response R125, R126). -/

namespace Sys2Proof.Machine

theorem ackOf_cons (r : Byte) (rest : List Byte) : ackOf (r :: rest) = (r == Config.ack) := by
  simp [ackOf]

/-- The sentinel: nothing but EOD is written (R126 (a)). -/
theorem interpretReadOn_sentinel (block : List Byte) (s : State) (h : eodOf block = true) :
    interpretReadOn block s = (none, { s with eodF := true }) := by
  simp [interpretReadOn, h]

/-- No sentinel: the checksum decides, and ACC, MATCH and EOD are written (R126 steps 2 and 3). -/
theorem interpretReadOn_checked (block : List Byte) (s : State) (h : eodOf block = false) :
    interpretReadOn block s =
      (if closed block then some (payloadOf block) else none,
        { s with eodF := false, acc := sum8 (covered block), matchF := closed block }) := by
  simp only [interpretReadOn, h, verifyOn_eq]
  cases hc : closed block <;> simp

/-- A returned payload has 128 bytes (R126 (d)). -/
theorem interpretReadOn_length (block p : List Byte) (s : State) (hl : block.length = 132)
    (h : (interpretReadOn block s).1 = some p) : p.length = 128 := by
  cases he : eodOf block with
  | true => simp [interpretReadOn_sentinel _ _ he] at h
  | false =>
    rw [interpretReadOn_checked _ _ he] at h
    simp only at h
    split at h
    · obtain rfl := Option.some.inj h; exact payloadOf_length hl
    · cases h

end Sys2Proof.Machine
end

