-- ==== Sys2Proof/Laws/Ufr.lean ====
section
/-! SUPPORT. What the transport's shared operations do (42_transport R111 to R119): each operation's outcomes, said once. -/

namespace Sys2Proof.Machine

theorem openOn_ok (port : Option PortName) (s : State) (h : s.env.openAnswer = true) :
    openOn port s =
      .ok .current { s with env := s.env.afterOpen, portst := .opened, settings := Config.serial } := by
  simp [openOn, h]

theorem openOn_raised (port : Option PortName) (s : State) (h : s.env.openAnswer = false) :
    openOn port s = .raised (.openFailed port) { s with env := s.env.afterOpen } := by
  simp [openOn, h]

theorem writeAllOn_ok (frame : List Byte) (s : State) (h : s.env.writeAnswer = .complete) :
    writeAllOn frame s = .ok () (({ s with env := s.env.afterWrite } : State).send frame) := by
  simp [writeAllOn, h]

theorem writeAllOn_raised (frame : List Byte) (s : State) (k : Nat) (h : s.env.writeAnswer = .broken k) :
    writeAllOn frame s =
      .raised .writeFailed
        (({ s with env := s.env.afterWrite } : State).send (frame.take (sentBound k frame.length))) := by
  simp [writeAllOn, h]

theorem readExactOn_ok (n : Nat) (s : State) (h : n ≤ s.env.arrival.length) :
    readExactOn n s =
      .ok (s.env.arrival.take n)
        (({ s with env := s.env.afterRead } : State).loadRx (s.env.arrival.take n)) := by
  have : ¬ s.env.arrival.length < n := by omega
  simp [readExactOn, this]

theorem readExactOn_raised (n : Nat) (s : State) (h : s.env.arrival.length < n) :
    readExactOn n s = .raised (.readTimeout n) ({ s with env := s.env.afterRead } : State).dropRx := by
  simp [readExactOn, h]

/-- A broken write sends a proper prefix (R112, U12). -/
theorem sentBound_lt (k n : Nat) (h : 0 < n) : sentBound k n < n := Nat.mod_lt _ h

/-- The state in which an exchange stands when its read has been answered (R119). -/
def State.exchanged (s : State) (frame : List Byte) : State :=
  { s with
    env := s.env.afterOpen.afterWrite.afterRead, portst := .opened, settings := Config.serial
    txs := s.txs ++ frame
    phase := .receiving, trail := s.trail ++ [.opening, .sending, .receiving] }

/-- An exchange whose open fails: nothing is sent (R119, 60 R141). -/
theorem exchangeOn_openFailed (port : Option PortName) (frame : List Byte) (n : Nat) (s : State)
    (ho : s.env.openAnswer = false) :
    exchangeOn port frame n s =
      .raised (.openFailed port) { s.enter .opening with env := s.env.afterOpen } := by
  rw [exchangeOn, openOn_raised _ _ (by simpa using ho)]
  rfl

/-- An exchange whose write breaks: a proper prefix of the frame is sent (R119, 60 R142). -/
theorem exchangeOn_writeFailed (port : Option PortName) (frame : List Byte) (n k : Nat) (s : State)
    (ho : s.env.openAnswer = true) (hw : s.env.afterOpen.writeAnswer = .broken k) :
    exchangeOn port frame n s =
      .raised .writeFailed
        { s with
          env := s.env.afterOpen.afterWrite, portst := .opened, settings := Config.serial
          txs := s.txs ++ frame.take (sentBound k frame.length)
          phase := .sending, trail := s.trail ++ [.opening, .sending] } := by
  rw [exchangeOn, openOn_ok _ _ (by simpa using ho)]
  simp only [Flow.andThen]
  rw [writeAllOn_raised _ _ k (by simpa using hw)]
  simp [State.send, State.enter]

/-- An exchange in which too few bytes arrive in time (R119, 60 R143). -/
theorem exchangeOn_timeout (port : Option PortName) (frame : List Byte) (n : Nat) (s : State)
    (ho : s.env.openAnswer = true) (hw : s.env.afterOpen.writeAnswer = .complete)
    (hr : s.env.afterOpen.afterWrite.arrival.length < n) :
    exchangeOn port frame n s = .raised (.readTimeout n) (s.exchanged frame).dropRx := by
  rw [exchangeOn, openOn_ok _ _ (by simpa using ho)]
  simp only [Flow.andThen]
  rw [writeAllOn_ok _ _ (by simpa using hw)]
  simp only []
  rw [readExactOn_raised _ _ (by simpa using hr)]
  simp [State.send, State.enter, State.dropRx, State.exchanged]

/-- An exchange that completes: the port is closed again and the first `n` bytes are the response (R119). -/
theorem exchangeOn_ok (port : Option PortName) (frame : List Byte) (n : Nat) (s : State)
    (ho : s.env.openAnswer = true) (hw : s.env.afterOpen.writeAnswer = .complete)
    (hr : n ≤ s.env.afterOpen.afterWrite.arrival.length) :
    exchangeOn port frame n s =
      .ok (s.env.afterOpen.afterWrite.arrival.take n)
        ((s.exchanged frame).loadRx (s.env.afterOpen.afterWrite.arrival.take n)).closeHandle := by
  rw [exchangeOn, openOn_ok _ _ (by simpa using ho)]
  simp only [Flow.andThen]
  rw [writeAllOn_ok _ _ (by simpa using hw)]
  simp only []
  rw [readExactOn_ok _ _ (by simpa using hr)]
  simp [State.send, State.enter, State.loadRx, State.closeHandle, State.exchanged]

/-- The environment's answers to an exchange that awaits `n` bytes fall into one of four cases (60 R151). -/
theorem Env.exchange_cases (e : Env) (n : Nat) :
    e.openAnswer = false ∨
    (e.openAnswer = true ∧ ∃ k, e.afterOpen.writeAnswer = .broken k) ∨
    (e.openAnswer = true ∧ e.afterOpen.writeAnswer = .complete ∧ e.afterOpen.afterWrite.arrival.length < n) ∨
    (e.openAnswer = true ∧ e.afterOpen.writeAnswer = .complete ∧ n ≤ e.afterOpen.afterWrite.arrival.length) := by
  cases ho : e.openAnswer
  · simp
  · cases hw : e.afterOpen.writeAnswer
    · rcases Nat.lt_or_ge e.afterOpen.afterWrite.arrival.length n with h | h
      · simp [h]
      · simp [h]
    · simp

end Sys2Proof.Machine
end

