-- ==== Sys2Proof/Laws/Commands.lean ====
section
/-! SUPPORT. What a call does from its built frame on (44_commands R133): one lemma for each way it can end. -/

namespace Sys2Proof.Machine

/-- The decoding phase of a call of kind `k` on the response `r` (R118, R133). -/
def decodingPhase (k : Kind) (r : List Byte) (s : State) : State :=
  match k with
  | .erase => ackPhase r s
  | .write => ackPhase r s
  | .read => dataPhase r s

/-- The port cannot be opened: nothing is sent, and the fault is taken (60 R141). The environment is named, so that the
lemma applies to a state that is written out. -/
theorem roundTrip_openFailed (port : Option PortName) (k : Kind) (frame : List Byte) (s : State) (e : Env)
    (he : s.env = e) (ho : e.openAnswer = false) :
    roundTrip port k frame s =
      (({ s.enter .opening with env := e.afterOpen } : State).takeFault (.openFailed port)).dropFrames := by
  subst he
  rw [roundTrip, exchangeOn_openFailed _ _ _ _ ho]
  rfl

/-- The write breaks: a proper prefix is sent, and the fault is taken (60 R142). -/
theorem roundTrip_writeFailed (port : Option PortName) (k : Kind) (frame : List Byte) (j : Nat) (s : State) (e : Env)
    (he : s.env = e) (ho : e.openAnswer = true) (hw : e.afterOpen.writeAnswer = .broken j) :
    roundTrip port k frame s =
      (({ s with
          env := e.afterOpen.afterWrite, portst := .opened, settings := Config.serial
          txs := s.txs ++ frame.take (sentBound j frame.length)
          phase := .sending, trail := s.trail ++ [.opening, .sending] } : State).takeFault .writeFailed).dropFrames := by
  subst he
  rw [roundTrip, exchangeOn_writeFailed _ _ _ j _ ho hw]
  rfl

/-- Too few bytes arrive in time: the fault is taken with RXBUF empty (60 R143). -/
theorem roundTrip_timeout (port : Option PortName) (k : Kind) (frame : List Byte) (s : State) (e : Env)
    (he : s.env = e) (ho : e.openAnswer = true) (hw : e.afterOpen.writeAnswer = .complete)
    (hr : e.afterOpen.afterWrite.arrival.length < k.rxLen) :
    roundTrip port k frame s = ((s.exchanged frame).takeFault (.readTimeout k.rxLen)).dropFrames := by
  subst he
  rw [roundTrip, exchangeOn_timeout _ _ _ _ ho hw hr]
  rfl

/-- The exchange completes and its response is decoded by the kind (R118, R133). -/
theorem roundTrip_ok (port : Option PortName) (k : Kind) (frame : List Byte) (s : State) (e : Env)
    (he : s.env = e) (ho : e.openAnswer = true) (hw : e.afterOpen.writeAnswer = .complete)
    (hr : k.rxLen ≤ e.afterOpen.afterWrite.arrival.length) :
    roundTrip port k frame s =
      (decodingPhase k (e.afterOpen.afterWrite.arrival.take k.rxLen)
        ((s.exchanged frame).loadRx (e.afterOpen.afterWrite.arrival.take k.rxLen)).closeHandle).dropFrames := by
  subst he
  rw [roundTrip, exchangeOn_ok _ _ _ _ ho hw hr]
  cases k <;> rfl

/-- The decoding phase of an acknowledged call: ACKF and RESULT (R125, R130, R131). -/
theorem ackPhase_eq (r : List Byte) (s : State) :
    ackPhase r s =
      ({ s.enter .decoding with ackF := ackOf r } : State).finish (.ack (ackOf r)) := rfl

/-- The decoding phase of a read call on a sentinel block (R126 (a)). -/
theorem dataPhase_sentinel (r : List Byte) (s : State) (h : eodOf r = true) :
    dataPhase r s = ({ s.enter .decoding with eodF := true } : State).finish (.data none) := by
  simp [dataPhase, interpretReadOn_sentinel _ _ h]

/-- The decoding phase of a read call on any other block (R126 steps 2 and 3). -/
theorem dataPhase_checked (r : List Byte) (s : State) (h : eodOf r = false) :
    dataPhase r s =
      ({ s.enter .decoding with eodF := false, acc := sum8 (covered r), matchF := closed r } : State).finish
        (.data (if closed r then some (payloadOf r) else none)) := by
  simp [dataPhase, interpretReadOn_checked _ _ h]

/-- The decoding phase ends the call with the result it reports (R133). -/
theorem decodingPhase_result (k : Kind) (r : List Byte) (s : State) :
    ∃ v, (∀ f, v ≠ .fault f) ∧ (decodingPhase k r s).result = some v ∧ (decodingPhase k r s).ret = .result v ∧
      (decodingPhase k r s).phase = .idle ∧ (decodingPhase k r s).portst = s.portst := by
  cases k with
  | erase => exact ⟨_, by simp, rfl, rfl, rfl, rfl⟩
  | write => exact ⟨_, by simp, rfl, rfl, rfl, rfl⟩
  | read =>
    cases he : eodOf r with
    | true => simp only [decodingPhase, dataPhase_sentinel _ _ he]; exact ⟨_, by simp, rfl, rfl, rfl, rfl⟩
    | false => simp only [decodingPhase, dataPhase_checked _ _ he]; exact ⟨_, by simp, rfl, rfl, rfl, rfl⟩

/-- A call ends idle with the port closed, whatever the environment answers (R133, 42_transport R117). -/
theorem roundTrip_ends (port : Option PortName) (k : Kind) (frame : List Byte) (s : State) :
    (roundTrip port k frame s).phase = .idle ∧ (roundTrip port k frame s).portst = .closed := by
  rcases Env.exchange_cases s.env k.rxLen with ho | ⟨ho, j, hw⟩ | ⟨ho, hw, hr⟩ | ⟨ho, hw, hr⟩
  · rw [roundTrip_openFailed _ _ _ _ _ rfl ho]; exact ⟨rfl, rfl⟩
  · rw [roundTrip_writeFailed _ _ _ j _ _ rfl ho hw]; exact ⟨rfl, rfl⟩
  · rw [roundTrip_timeout _ _ _ _ _ rfl ho hw hr]; exact ⟨rfl, rfl⟩
  · rw [roundTrip_ok _ _ _ _ _ rfl ho hw hr]
    obtain ⟨_, _, _, _, h, h'⟩ := decodingPhase_result k (s.env.afterOpen.afterWrite.arrival.take k.rxLen)
      ((s.exchanged frame).loadRx (s.env.afterOpen.afterWrite.arrival.take k.rxLen)).closeHandle
    exact ⟨h, h'.trans rfl⟩

/-- The decoding phase leaves everything but its flags, ACC, MATCH and the end of the call as it was (R125, R126). -/
theorem decodingPhase_frame (k : Kind) (r : List Byte) (s : State) :
    decodingPhase k r s =
      { s with
        acc := (decodingPhase k r s).acc, matchF := (decodingPhase k r s).matchF
        eodF := (decodingPhase k r s).eodF, ackF := (decodingPhase k r s).ackF
        phase := .idle, result := (decodingPhase k r s).result, ret := (decodingPhase k r s).ret
        trail := s.trail ++ [.decoding, .idle] } ∧
    (k ≠ .read → (decodingPhase k r s).acc = s.acc ∧ (decodingPhase k r s).matchF = s.matchF ∧
      (decodingPhase k r s).eodF = s.eodF) ∧
    (k = .read → (decodingPhase k r s).ackF = s.ackF) := by
  cases k with
  | erase => simp [decodingPhase, ackPhase_eq, State.finish, State.enter, State.yielding]
  | write => simp [decodingPhase, ackPhase_eq, State.finish, State.enter, State.yielding]
  | read =>
    cases he : eodOf r with
    | true => simp [decodingPhase, dataPhase_sentinel _ _ he, State.finish, State.enter, State.yielding]
    | false => simp [decodingPhase, dataPhase_checked _ _ he, State.finish, State.enter, State.yielding]

/-- What a call from its built frame on leaves unchanged, whatever the environment answers (R118, R133). -/
theorem roundTrip_frame (port : Option PortName) (k : Kind) (frame : List Byte) (s : State) :
    ∃ t, roundTrip port k frame s = t ∧
      t.ofs = s.ofs ∧ t.clen = s.clen ∧ t.kind = s.kind ∧ t.txbuf = [] ∧ t.rxbuf = [] ∧ t.txlen = s.txlen ∧
      t.pending = s.pending ∧ (t.settings = s.settings ∨ t.settings = Config.serial) ∧
      (k ≠ .read → t.acc = s.acc ∧ t.matchF = s.matchF ∧ t.eodF = s.eodF) ∧ (k = .read → t.ackF = s.ackF) := by
  refine ⟨_, rfl, ?_⟩
  rcases Env.exchange_cases s.env k.rxLen with ho | ⟨ho, j, hw⟩ | ⟨ho, hw, hr⟩ | ⟨ho, hw, hr⟩
  · rw [roundTrip_openFailed _ _ _ _ _ rfl ho]; simp
  · rw [roundTrip_writeFailed _ _ _ j _ _ rfl ho hw]; simp
  · rw [roundTrip_timeout _ _ _ _ _ rfl ho hw hr]; simp [State.exchanged]
  · rw [roundTrip_ok _ _ _ _ _ rfl ho hw hr]
    obtain ⟨h, h1, h2⟩ := decodingPhase_frame k (s.env.afterOpen.afterWrite.arrival.take k.rxLen)
      ((s.exchanged frame).loadRx (s.env.afterOpen.afterWrite.arrival.take k.rxLen)).closeHandle
    refine ⟨?_, ?_, ?_, rfl, rfl, ?_, ?_, ?_, h1, h2⟩
    · simp only [State.dropFrames_ofs]; rw [h]; rfl
    · simp only [State.dropFrames_clen]; rw [h]; rfl
    · simp only [State.dropFrames_kind]; rw [h]; rfl
    · simp only [State.dropFrames_txlen]; rw [h]; rfl
    · simp only [State.dropFrames_pending]; rw [h]; rfl
    · simp only [State.dropFrames_settings]; rw [h]; exact .inr rfl

/-- The draws a call makes, the phases it passes, and what it leaves on the streams and in RXLEN (R110, R119, R151): a
fault consumes nothing, and a response that is consumed is the first bytes that arrived. -/
theorem roundTrip_passage (port : Option PortName) (k : Kind) (frame : List Byte) (s : State) :
    ∃ t, roundTrip port k frame s = t ∧
      (t.env = s.env.afterOpen ∨ t.env = s.env.afterOpen.afterWrite ∨ t.env = s.env.afterOpen.afterWrite.afterRead) ∧
      (∃ n, n ≤ 4 ∧ 0 < n ∧
        t.trail = s.trail ++ [Phase.opening, .sending, .receiving, .decoding].take n ++ [.idle]) ∧
      (∃ m, t.txs = s.txs ++ frame.take m) ∧
      ((t.rxs = s.rxs ∧ t.rxlen = s.rxlen) ∨
        (t.rxs = s.rxs ++ s.env.afterOpen.afterWrite.arrival.take k.rxLen ∧
          k.rxLen ≤ s.env.afterOpen.afterWrite.arrival.length ∧ t.rxlen = k.rxLen)) := by
  refine ⟨_, rfl, ?_⟩
  rcases Env.exchange_cases s.env k.rxLen with ho | ⟨ho, j, hw⟩ | ⟨ho, hw, hr⟩ | ⟨ho, hw, hr⟩
  · rw [roundTrip_openFailed _ _ _ _ _ rfl ho]
    exact ⟨.inl rfl, ⟨1, by omega, by omega, by simp⟩, ⟨0, by simp⟩, .inl ⟨rfl, rfl⟩⟩
  · rw [roundTrip_writeFailed _ _ _ j _ _ rfl ho hw]
    exact ⟨.inr (.inl rfl), ⟨2, by omega, by omega, by simp⟩, ⟨_, rfl⟩, .inl ⟨rfl, rfl⟩⟩
  · rw [roundTrip_timeout _ _ _ _ _ rfl ho hw hr]
    exact ⟨.inr (.inr rfl), ⟨3, by omega, by omega, by simp [State.exchanged]⟩,
      ⟨frame.length, by simp [State.exchanged]⟩, .inl ⟨rfl, rfl⟩⟩
  · rw [roundTrip_ok _ _ _ _ _ rfl ho hw hr]
    have hl : (s.env.afterOpen.afterWrite.arrival.take k.rxLen).length = k.rxLen := by simp; omega
    obtain ⟨h, -⟩ := decodingPhase_frame k (s.env.afterOpen.afterWrite.arrival.take k.rxLen)
      ((s.exchanged frame).loadRx (s.env.afterOpen.afterWrite.arrival.take k.rxLen)).closeHandle
    rw [h]
    exact ⟨.inr (.inr rfl), ⟨4, by omega, by omega, by simp [State.exchanged]⟩,
      ⟨frame.length, by simp [State.exchanged]⟩, .inr ⟨rfl, hr, hl⟩⟩

/-- A call returns a result; it is a fault exactly when its exchange met one (R133, R145, R152). -/
theorem roundTrip_result (port : Option PortName) (k : Kind) (frame : List Byte) (s : State) :
    ∃ v, (roundTrip port k frame s).result = some v ∧ (roundTrip port k frame s).ret = .result v ∧
      (s.env.openAnswer = true → s.env.afterOpen.writeAnswer = .complete →
        k.rxLen ≤ s.env.afterOpen.afterWrite.arrival.length → ∀ f, v ≠ .fault f) := by
  rcases Env.exchange_cases s.env k.rxLen with ho | ⟨ho, j, hw⟩ | ⟨ho, hw, hr⟩ | ⟨ho, hw, hr⟩
  · rw [roundTrip_openFailed _ _ _ _ _ rfl ho]; exact ⟨_, rfl, rfl, by simp [ho]⟩
  · rw [roundTrip_writeFailed _ _ _ j _ _ rfl ho hw]; exact ⟨_, rfl, rfl, by simp [hw]⟩
  · rw [roundTrip_timeout _ _ _ _ _ rfl ho hw hr]; exact ⟨_, rfl, rfl, fun _ _ h => by omega⟩
  · rw [roundTrip_ok _ _ _ _ _ rfl ho hw hr]
    obtain ⟨v, h, h1, h2, -⟩ := decodingPhase_result k (s.env.afterOpen.afterWrite.arrival.take k.rxLen)
      ((s.exchanged frame).loadRx (s.env.afterOpen.afterWrite.arrival.take k.rxLen)).closeHandle
    exact ⟨v, h1, h2, fun _ _ _ => h⟩

/-! ### What a call runs, from idle -/

/-- `erase` from IDLE: the constant frame, then the round trip (R130). -/
theorem execErase_idle (p : PortName) (s : State) (h : s.phase = .idle) :
    execErase p s =
      .next (roundTrip (some p) .erase eraseFrame
        (({ s.startCall .erase with acc := 0x8E, kind := .erase } : State).loadTx eraseFrame)) := by
  simp only [execErase, h, if_true, buildEraseOn_eq]

/-- `read_chunk` from IDLE: the read frame, then the round trip (R132). -/
theorem execReadChunk_idle (p : PortName) (o : Offset) (s : State) (h : s.phase = .idle) :
    execReadChunk p o s =
      .next (roundTrip (some p) .read (readFrameBytes o (0x52 + offsetHi o + offsetLo o))
        (({ s.startCall .read with
              acc := 0x52 + offsetHi o + offsetLo o, kind := .read, ofs := o } : State).loadTx
          (readFrameBytes o (0x52 + offsetHi o + offsetLo o)))) := by
  simp only [execReadChunk, h, if_true, buildReadOn_eq]

/-- `write_chunk` from IDLE within the image: the write frame, then the round trip (R131). -/
theorem execWriteChunk_idle (p : PortName) (o : Offset) (fw : List Byte) (s : State) (h : s.phase = .idle)
    (hl : o.toNat ≤ fw.length) :
    execWriteChunk p o fw s =
      .next (roundTrip (some p) .write (writeFrameBytes o (paddedChunk o fw) (writeSum o (paddedChunk o fw)))
        (({ s.startCall .write with
              acc := writeSum o (paddedChunk o fw), kind := .write, ofs := o
              clen := ⟨chunkLength o fw.length, chunkLength_lt o fw.length⟩ } : State).loadTx
          (writeFrameBytes o (paddedChunk o fw) (writeSum o (paddedChunk o fw))))) := by
  simp only [execWriteChunk, h, if_true, buildWriteOn_ok _ _ _ hl, Flow.settle]

/-- `write_chunk` from IDLE past the image's end: the fault, with nothing built (R131, R144). -/
theorem execWriteChunk_outOfRange (p : PortName) (o : Offset) (fw : List Byte) (s : State) (h : s.phase = .idle)
    (hl : fw.length < o.toNat) :
    execWriteChunk p o fw s = .next ((s.startCall .write).takeFault (.indexOutOfRange o fw.length)) := by
  simp only [execWriteChunk, h, if_true, buildWriteOn_raised _ _ _ hl, Flow.settle]

/-- A request frame from IDLE: the round trip of the frame as it stands (log 12, 14). -/
theorem frameCall_idle (k : Kind) (frame : List Byte) (s : State) (h : s.phase = .idle) :
    frameCall k frame s = .next (roundTrip none k frame ((s.startCall k).loadTx frame)) := by
  simp only [frameCall, h, if_true]

end Sys2Proof.Machine
end

