-- ==== Sys2Proof/Laws/Calls.lean ====
section
/-! SUPPORT. Every call, a command or a request frame, is one round trip of the frame it loaded in phase BUILD, or the
fault of `build_write_chunk` (44_commands R130 to R133, 30_encoding R71). -/

namespace Sys2Proof.Machine

/-- The frame that `read_chunk` sends (41 R103). -/
theorem requestFrame_readChunk (p : PortName) (o : Offset) :
    (Instr.readChunk p o).requestFrame = readFrameBytes o (0x52 + offsetHi o + offsetLo o) := by
  have h := buildReadOn_eq o State.reset
  simp only [buildReadOn, closeInto_eq] at h
  exact congrArg Prod.fst h

/-- The frame that `write_chunk` sends within the image (41 R102). -/
theorem requestFrame_writeChunk (p : PortName) (o : Offset) (fw : List Byte) :
    (Instr.writeChunk p o fw).requestFrame = writeFrameBytes o (paddedChunk o fw) (writeSum o (paddedChunk o fw)) := by
  have : writeFields o fw = (Config.opWrite :: offsetHi o :: offsetLo o :: paddedChunk o fw) ++ [0] := by
    simp [writeFields_eq, writeFrameBytes, paddedChunk]
  simp only [Instr.requestFrame, this, covered_concat, writeSum]
  simp [writeFrameBytes]

/-- The state in which a call stands when its frame is in TXBUF and the port is not yet open: no result and no response
of an earlier call (10_state R29). -/
def State.loaded (s : State) (k : Kind) (acc : Byte) (o : Offset) (c : Fin 129) (frame : List Byte) : State :=
  { s with
    acc := acc, ofs := o, clen := c, kind := k, txbuf := Memory.ofBytes frame, txlen := frame.length, rxbuf := []
    result := none, phase := .build, trail := [.build] }

/-- One round trip of a call: what it loads, and that its frame is the request of its kind. -/
def IsRoundTrip (i : Instr) (s t : State) : Prop :=
  ∃ port k acc o c, t = roundTrip port k i.requestFrame (s.loaded k acc o c i.requestFrame) ∧
    i.requestFrame.length = k.txLen ∧ (i.checksummed = true → closed i.requestFrame = true) ∧
    (i.footprint.acc = false → acc = s.acc) ∧ (i.footprint.ofs = false → o = s.ofs) ∧
    (i.footprint.clen = false → c = s.clen) ∧
    (k ≠ .read → i.footprint.matchF = false ∧ i.footprint.eodF = false) ∧
    (k = .read → i.footprint.ackF = false ∧ i.footprint.acc = true ∧ i.footprint.matchF = true ∧ i.footprint.eodF = true)

/-- A call that answers a next state began in IDLE and is one round trip, or stopped in BUILD on INDEX_OUT_OF_RANGE. -/
theorem exec_call (i : Instr) (s t : State) (hi : i.isCommand = true ∨ i.isRequest = true) (h : exec i s = .next t) :
    s.phase = .idle ∧
      (IsRoundTrip i s t ∨
        ∃ p o fw, i = .writeChunk p o fw ∧ fw.length < o.toNat ∧
          t = (s.startCall .write).takeFault (.indexOutOfRange o fw.length)) := by
  cases i <;> simp [Instr.isCommand, Instr.isRequest] at hi
  case erase p =>
    simp only [exec] at h
    by_cases hp : s.phase = .idle
    · rw [execErase_idle _ _ hp] at h
      cases h
      exact ⟨hp, .inl ⟨some p, .erase, 0x8E, s.ofs, s.clen, rfl, rfl, fun _ => closed_eraseFrame,
        by simp [Instr.footprint], by simp, by simp, by simp [Instr.footprint], by simp⟩⟩
    · simp [execErase, hp] at h
  case readChunk p o =>
    simp only [exec] at h
    by_cases hp : s.phase = .idle
    · rw [execReadChunk_idle _ _ _ hp, ← requestFrame_readChunk p] at h
      cases h
      refine ⟨hp, .inl ⟨some p, .read, _, o, s.clen, rfl, ?_, fun _ => ?_, by simp [Instr.footprint],
        by simp [Instr.footprint], by simp, by simp, by simp [Instr.footprint]⟩⟩
      · rw [requestFrame_readChunk]; rfl
      · simp [requestFrame_readChunk, closed_readFrameBytes]
    · simp [execReadChunk, hp] at h
  case writeChunk p o fw =>
    simp only [exec] at h
    by_cases hp : s.phase = .idle
    · refine ⟨hp, ?_⟩
      by_cases hl : o.toNat ≤ fw.length
      · rw [execWriteChunk_idle _ _ _ _ hp hl, ← requestFrame_writeChunk p] at h
        cases h
        refine .inl ⟨some p, .write, _, o, _, rfl, ?_, fun _ => ?_, by simp [Instr.footprint],
          by simp [Instr.footprint], by simp [Instr.footprint], by simp [Instr.footprint], by simp⟩
        · simp [requestFrame_writeChunk, writeFrameBytes_length, paddedChunk_length, Kind.txLen]
        · simp [requestFrame_writeChunk, closed_writeFrameBytes]
      · rw [execWriteChunk_outOfRange _ _ _ _ hp (by omega)] at h
        cases h
        exact .inr ⟨p, o, fw, rfl, by omega, rfl⟩
    · simp [execWriteChunk, hp] at h
  case frameErase ck =>
    simp only [exec, execFrameErase] at h
    by_cases hp : s.phase = .idle
    · rw [frameCall_idle _ _ _ hp] at h
      cases h
      exact ⟨hp, .inl ⟨none, .erase, s.acc, s.ofs, s.clen, rfl, rfl, fun _ => closed_eraseFrame, by simp, by simp, by simp,
        by simp [Instr.footprint], by simp⟩⟩
    · simp [frameCall, hp] at h
  case frameRead o ck =>
    simp only [exec, execFrameRead] at h
    by_cases hp : s.phase = .idle
    · rw [frameCall_idle _ _ _ hp] at h
      cases h
      exact ⟨hp, .inl ⟨none, .read, s.acc, s.ofs, s.clen, rfl, rfl, by simp [Instr.checksummed, Instr.requestFrame],
        by simp, by simp, by simp, by simp, by simp [Instr.footprint]⟩⟩
    · simp [frameCall, hp] at h
  case frameWrite o pay ck =>
    simp only [exec, execFrameWrite] at h
    by_cases hl : pay.length = 128
    · rw [if_pos hl] at h
      by_cases hp : s.phase = .idle
      · rw [frameCall_idle _ _ _ hp] at h
        cases h
        exact ⟨hp, .inl ⟨none, .write, s.acc, s.ofs, s.clen, rfl,
          by simp [Instr.requestFrame, writeFrameBytes_length, hl, Kind.txLen],
          by simp [Instr.checksummed, Instr.requestFrame], by simp, by simp, by simp, by simp [Instr.footprint], by simp⟩⟩
      · simp [frameCall, hp] at h
    · simp [hl] at h

/-- What a call sends is a request of the block, closed unless it is a frame that came with another checksum byte (R65,
30_encoding R73, R74; log 14). -/
theorem requestFrame_isRequest (i : Instr) (s t : State) (hi : i.isCommand = true ∨ i.isRequest = true)
    (h : exec i s = .next t) :
    Sys2Proof.isRequest i.requestFrame = true ∧ (i.checksummed = true → closed i.requestFrame = true) := by
  cases i <;> simp [Instr.isCommand, Instr.isRequest] at hi
  case erase => exact ⟨rfl, fun _ => closed_eraseFrame⟩
  case frameErase => exact ⟨rfl, fun _ => closed_eraseFrame⟩
  case readChunk p o =>
    rw [requestFrame_readChunk]
    exact ⟨isRequest_readFrameBytes _ _, fun _ => by simp [closed_readFrameBytes]⟩
  case writeChunk p o fw =>
    rw [requestFrame_writeChunk]
    exact ⟨isRequest_writeFrameBytes _ _ _ (paddedChunk_length _ _), fun _ => by simp [closed_writeFrameBytes]⟩
  case frameRead o ck => exact ⟨isRequest_readFrameBytes _ _, id⟩
  case frameWrite o p ck =>
    simp only [exec, execFrameWrite] at h
    split at h
    · rename_i hl; exact ⟨isRequest_writeFrameBytes _ _ _ hl, id⟩
    · cases h

/-- The response length that a request awaits is that of its kind (42_transport R118). -/
theorem awaited_of_kind (f : List Byte) (k : Kind) (h : Sys2Proof.isRequest f = true) (hl : f.length = k.txLen) :
    awaited f = k.rxLen := by
  simp only [Sys2Proof.isRequest, Bool.or_eq_true, Bool.and_eq_true, beq_iff_eq] at h
  rcases h with (rfl | ⟨h0, h⟩) | ⟨h0, h⟩
  · cases k <;> first | rfl | simp [Kind.txLen] at hl
  · cases k <;> simp [Kind.txLen, h] at hl
    simp [awaited, h0, Kind.rxLen]
  · cases k <;> simp [Kind.txLen, h] at hl
    simp [awaited, h0, Kind.rxLen]

end Sys2Proof.Machine
end

