-- ==== Sys2Proof/Laws/PerInstr.lean ====
section
/-! SUPPORT. Statements made instruction by instruction: the length of an encoded frame is that of its format
(30_encoding R60, R61, R71). -/

namespace Sys2Proof.Laws.FrameLength

/-- A well-formed instruction's frame has the length its opcode announces, or a response length; an operation has none. -/
def Statement (i : Instr) : Prop :=
  i.wf = true → ∀ bs,
    (encode i = some (.blockToDevice, bs) → bs.head?.bind requestLength = some bs.length) ∧
    (encode i = some (.deviceToBlock, bs) → responseLengthOk bs.length = true)

theorem frameErase (ck : EraseChecksum) : Statement (.frameErase ck) := by
  intro _ bs; refine ⟨fun h => ?_, fun h => ?_⟩ <;> simp [encode] at h
  subst h; rfl
theorem frameWrite (o : Offset) (p : List Byte) (ck : Byte) : Statement (.frameWrite o p ck) := by
  intro w bs; refine ⟨fun h => ?_, fun h => ?_⟩ <;> simp [encode] at h
  have hp : p.length = 128 := by simp [Instr.wf] at w; exact w
  subst h; rw [writeFrameBytes_length, hp]; rfl
theorem frameRead (o : Offset) (ck : Byte) : Statement (.frameRead o ck) := by
  intro _ bs; refine ⟨fun h => ?_, fun h => ?_⟩ <;> simp [encode] at h
  subst h; rfl
theorem frameAck : Statement .frameAck := by
  intro _ bs; refine ⟨fun h => ?_, fun h => ?_⟩ <;> simp [encode] at h
  subst h; rfl
theorem frameNack (r : Byte) : Statement (.frameNack r) := by
  intro _ bs; refine ⟨fun h => ?_, fun h => ?_⟩ <;> simp [encode] at h
  subst h; rfl
theorem frameEod (e0 e2 : Byte) (p : List Byte) (ck : Byte) : Statement (.frameEod e0 e2 p ck) := by
  intro w bs; refine ⟨fun h => ?_, fun h => ?_⟩ <;> simp [encode] at h
  have hp : p.length = 128 := by simp [Instr.wf] at w; exact w
  subst h; rw [dataFrameBytes_length, hp]; rfl
theorem frameData (e0 f e2 : Byte) (p : List Byte) (ck : Byte) : Statement (.frameData e0 f e2 p ck) := by
  intro w bs; refine ⟨fun h => ?_, fun h => ?_⟩ <;> simp [encode] at h
  have hp : p.length = 128 := by simp [Instr.wf] at w; exact w.2
  subst h; rw [dataFrameBytes_length, hp]; rfl

/-- An operation has no bit pattern, so it has no frame (30_encoding R80, D23). -/
theorem of_no_frame {i : Instr} (h : encode i = none) : Statement i := by
  intro _ bs; simp [h]

theorem csumClr : Statement .csumClr := of_no_frame rfl
theorem csumAdd (b : Byte) : Statement (.csumAdd b) := of_no_frame rfl
theorem compute (f : List Byte) : Statement (.compute f) := of_no_frame rfl
theorem verify (f : List Byte) : Statement (.verify f) := of_no_frame rfl
theorem buildErase : Statement .buildErase := of_no_frame rfl
theorem buildWriteChunk (o : Offset) (fw : List Byte) : Statement (.buildWriteChunk o fw) := of_no_frame rfl
theorem buildReadChunk (o : Offset) : Statement (.buildReadChunk o) := of_no_frame rfl
theorem openPort (p : PortName) : Statement (.openPort p) := of_no_frame rfl
theorem writeAll (h : Handle) (f : List Byte) : Statement (.writeAll h f) := of_no_frame rfl
theorem readExact (h : Handle) (n : Nat) : Statement (.readExact h n) := of_no_frame rfl
theorem closePort (h : Handle) : Statement (.closePort h) := of_no_frame rfl
theorem exchange (p : PortName) (f : List Byte) (n : Nat) : Statement (.exchange p f n) := of_no_frame rfl
theorem interpretAck (r : Byte) : Statement (.interpretAck r) := of_no_frame rfl
theorem interpretRead (b : List Byte) : Statement (.interpretRead b) := of_no_frame rfl
theorem erase (p : PortName) : Statement (.erase p) := of_no_frame rfl
theorem writeChunk (p : PortName) (o : Offset) (fw : List Byte) : Statement (.writeChunk p o fw) := of_no_frame rfl
theorem readChunk (p : PortName) (o : Offset) : Statement (.readChunk p o) := of_no_frame rfl
theorem withChecksumApplied (b : List Byte) : Statement (.withChecksumApplied b) := of_no_frame rfl

end Sys2Proof.Laws.FrameLength
end

