-- ==== Sys2Proof/Machine/Line.lean ====
section
/-! DEFINITION. The serial character and the line times (30_encoding R77, 20_memory R46, 42_transport R115, 70 R183).
No step uses anything of this file: every rule works on whole bytes and the model has no clock (log 24, 25). -/

namespace Sys2Proof.Machine

/-- A byte as it stands on the line under 8-N-1: a start bit (low), the eight data bits with the least significant bit
first, and a stop bit (high): ten bit-times (R46, R77; PRESUMED, from G1: log 24). -/
def lineCharacter (b : Byte) : List Bool :=
  false :: ((List.range 8).map fun i => b.getLsbD i) ++ [true]

/-- The byte of a line character; none where the start bit, the stop bit or the length is wrong (log 24). -/
def byteOfLineCharacter : List Bool → Option Byte
  | [false, b0, b1, b2, b3, b4, b5, b6, b7, true] =>
    some (BitVec.ofBoolListLE [b0, b1, b2, b3, b4, b5, b6, b7])
  | _ => none

/-- A frame on the line: its bytes in ascending index order, back to back (20_memory R45, 42_transport R112). -/
def lineBits (frame : List Byte) : List Bool := frame.flatMap lineCharacter

/-- The time of a frame on the line in nanoseconds, rounded down: ten bit-times a byte at the hardwired rate (R183). -/
def lineNanoseconds (bytes : Nat) : Nat := bytes * 10 * 1000000000 / Config.serial.baud

/-- The bound on the blocking of `read_exact` in seconds, by what the time-out spans (R115). -/
def readBoundSeconds (scope : TimeoutScope) (n : Nat) : Nat :=
  match scope with
  | .wholeRead => Config.serial.readTimeout
  | .perWait => n * Config.serial.readTimeout

end Sys2Proof.Machine
end

