-- ==== Sys2Proof/Tests/Slice0.lean ====
section
/-! SUPPORT. Tests of single steps against the vectors of spec/95_test_vectors.md, the well-formedness smoke test, decode
tests on words written out from 30_encoding, and a witness for each obligation that has hypotheses. -/

namespace Sys2Proof.Tests

open Sys2Proof Sys2Proof.Machine

/-- The bytes `a`, `a+1`, … (95 `ramp`). -/
def ramp (a n : Nat) : List Byte := (List.range n).map fun i => BitVec.ofNat 8 (a + i)

/-- `RAMP200` (95 section 2.7). -/
def ramp200 : List Byte := ramp 0 200

/-- A read-data block: bytes 0 to 2, the payload, byte 131 (95 section 2.10). -/
def block (b0 b1 b2 : Byte) (payload : List Byte) (last : Byte) : List Byte := b0 :: b1 :: b2 :: (payload ++ [last])

/-- The reset machine whose next exchange succeeds and is answered by `bs`. -/
def bench (bs : List Byte) : State := { State.reset with env := Env.scripted bs }

/-- The reset machine whose next open fails. -/
def benchNoPort : State := { State.reset with env := { Env.unscripted with opens := [false] } }

/-- The reset machine whose next open succeeds and whose next write breaks after `k` bytes. -/
def benchBroken (k : Nat) : State :=
  { State.reset with env := { Env.unscripted with opens := [true], writes := [.broken k] } }

/-- A stand-alone session that holds the handle and has not sent anything yet. -/
def session (bs : List Byte) : State := { bench bs with portst := .opened, phase := .sending }

/-- The same session with the request sent. -/
def sent (bs : List Byte) : State := { bench bs with portst := .opened, phase := .receiving }

/-- What is seen of the next state; nothing where the instruction stops. -/
def seen {α : Type} (i : Instr) (s : State) (f : State → α) : Option α :=
  match exec i s with
  | .next t => some (f t)
  | .fault _ => none
  | .refused _ => none

/-- The reason of a refusal. -/
def refusal (o : Host.Outcome State Fault Refusal) : Option Refusal :=
  match o with
  | .next _ => none
  | .fault _ => none
  | .refused r => some r

/-- What is seen after one step. -/
def stepped {α : Type} (s : State) (f : State → α) : Option α :=
  match step s with
  | .next t => some (f t)
  | .fault _ => none
  | .refused _ => none

/-! ### Well-formedness: a term that each check refuses -/

theorem test_read_checksum : (Instr.frameRead 0x0100 0x54).checksummed = false := by decide
theorem test_write_checksum : (Instr.frameWrite 0 (zeros 128) 0x58).checksummed = false := by decide +kernel
theorem test_wf_write_payload : (Instr.frameWrite 0 [0x00] 0x57).wf = false := by decide
theorem test_wf_nack_is_not_ack : (Instr.frameNack 0x06).wf = false := by decide
theorem test_wf_eod_payload : (Instr.frameEod 0 0 [] 0).wf = false := by decide
theorem test_wf_data_sentinel : (Instr.frameData 0 0xFF 0 (zeros 128) 0).wf = false := by decide
theorem test_wf_data_payload : (Instr.frameData 0 0 0 [] 0).wf = false := by decide
theorem test_wf_compute_empty : (Instr.compute []).wf = false := by decide
theorem test_wf_verify_empty : (Instr.verify []).wf = false := by decide
theorem test_wf_with_checksum_empty : (Instr.withChecksumApplied []).wf = false := by decide
theorem test_wf_write_all_length : (Instr.writeAll .current [0x52, 0x00, 0x00]).wf = false := by decide
theorem test_wf_read_exact_length : (Instr.readExact .current 2).wf = false := by decide
theorem test_wf_exchange_request : (Instr.exchange ⟨0⟩ [] 1).wf = false := by decide
theorem test_wf_write_all_opcode : (Instr.writeAll .current [0x41, 0, 0, 0]).wf = false := by decide
theorem test_wf_exchange_erase_bytes : (Instr.exchange ⟨0⟩ [0x39, 0x01, 0x00, 0x55, 0x8F] 1).wf = false := by decide
/-- R118: a read awaits 132 bytes. -/
theorem test_wf_exchange_kind : (Instr.exchange ⟨0⟩ [0x52, 0x00, 0x00, 0x52] 1).wf = false := by decide
theorem test_wf_exchange_response : (Instr.exchange ⟨0⟩ [0x39, 0, 0, 0x55, 0x8E] 131).wf = false := by decide
theorem test_wf_interpret_read_length : (Instr.interpretRead [0x52]).wf = false := by decide

/-! ### Decoding: words written out from R62 to R64, R68 to R71 -/

theorem test_decode_erase : decodeRequest [0x39, 0x00, 0x00, 0x55, 0x8E] = .ok (.frameErase .fixed) := by decide
/-- U8, T-ERASE-2: the rejected literal. -/
theorem test_decode_erase_checksum :
    decodeRequest [0x39, 0x00, 0x00, 0x55, 0x8F] = .error (.eraseFixedBytes 0 0 0x55 0x8F) := by decide
/-- T-RD-4. -/
theorem test_decode_read : decodeRequest [0x52, 0x12, 0x34, 0x98] = .ok (.frameRead 0x1234 0x98) := rfl
/-- T-WR-4. -/
theorem test_decode_write :
    decodeRequest ([0x57, 0x00, 0xC0, 0xC0, 0xC1, 0xC2, 0xC3, 0xC4, 0xC5, 0xC6, 0xC7] ++ zeros 120 ++ [0x33]) =
      .ok (.frameWrite 0x00C0 (ramp 0xC0 8 ++ zeros 120) 0x33) := by decide +kernel
theorem test_decode_ack : decodeResponse [0x06] = .ok .frameAck := rfl
theorem test_decode_nack : decodeResponse [0x86] = .ok (.frameNack 0x86) := rfl
/-- T-DATA-9. -/
theorem test_decode_eod : decodeResponse (List.replicate 132 0xFF) =
    .ok (.frameEod 0xFF 0xFF (List.replicate 128 0xFF) 0xFF) := by decide +kernel
/-- T-DATA-1. -/
theorem test_decode_data : decodeResponse (block 0x52 0x00 0x00 (ramp 0 128) 0x12) =
    .ok (.frameData 0x52 0x00 0x00 (ramp 0 128) 0x12) := by decide +kernel
/-- R74, U2. -/
theorem test_decode_unknown_opcode : decodeRequest [0x41, 0, 0, 0] = .error (.unknownOpcode 0x41) := rfl
/-- R73, U1. -/
theorem test_decode_erase_reserved : decodeRequest [0x39, 0x01, 0x00, 0x55, 0x8F] =
    .error (.eraseFixedBytes 1 0 0x55 0x8F) := by decide
theorem test_decode_short_read : decodeRequest [0x52, 0x00, 0x00] = .error (.wrongLength 3) := rfl
theorem test_decode_response_length : decodeResponse [0x06, 0x06] = .error (.wrongLength 2) := rfl
theorem test_decode_empty : decodeFrame .blockToDevice [] = .error .empty := rfl
/-- R72: byte 0 tells where a request ends on the line. -/
theorem test_take_request : takeRequest [0x52, 0x00, 0x80, 0xD2, 0x39, 0x00] =
    .ok (.frameRead 0x0080 0xD2, [0x39, 0x00]) := by decide
theorem test_encode_read : encode (.frameRead 0x1234 0x98) = some (.blockToDevice, [0x52, 0x12, 0x34, 0x98]) := by decide
theorem test_encode_operation : encode (.erase ⟨0⟩) = none := rfl

/-- A table word holds its first byte lowest: `98 34 12 52` is the frame `52 12 34 98`. -/
theorem test_table_word_read : decodeTableWord 32 0x98341252 = some (.frameRead 0x1234 0x98) := by decide
theorem test_table_word_erase : decodeTableWord 40 0x8E55000039 = some (.frameErase .fixed) := by decide
/-- The ERASE row's `match` alone: its `fixed_frame` completes it (log 22). -/
theorem test_table_word_erase_match : decodeTableWord 32 0x55000039 = some (.frameErase .fixed) := by decide
theorem test_table_word_ack : decodeTableWord 8 0x06 = some .frameAck := by decide
theorem test_table_word_nack : decodeTableWord 8 0x15 = some (.frameNack 0x15) := by decide
theorem test_table_word_eod : decodeTableWord 16 0xFF00 = some (.frameEod 0 0 (zeros 128) 0) := by decide +kernel
/-- A placed word is the next step's instruction: the read of 0x1234 goes out. -/
theorem test_fetch_word_runs : stepped ((bench (block 0x52 0xFF 0x01 (zeros 128) 0x52)).withFetchWord 32 0x98341252)
    (fun t => (t.txs, t.result)) = some ([0x52, 0x12, 0x34, 0x98], some (.data none)) := by decide +kernel
theorem test_idle_step : stepped State.reset (fun t => t) = some State.reset := rfl
theorem test_step_undecodable :
    refusal (step { State.reset with pending := [.frame .blockToDevice [0x41]] }) =
      some (.undecodable (.unknownOpcode 0x41)) := by decide

/-! ### Buffers -/

theorem test_buffer_canonical : Memory.write (Memory.write [] 3 0x55) 0 0x39 = [(0, 0x39), (3, 0x55)] := by decide
theorem test_buffer_overwrite : Memory.write [(0, 0x39), (3, 0x55)] 3 0x00 = [(0, 0x39), (3, 0x00)] := by decide
theorem test_buffer_unwritten : (Memory.ofBytes [0x06]).read 1 = none := by decide
theorem test_buffer_short_read : (Memory.ofBytes [0x06]).readBytes 0 2 = none := by decide

/-! ### The Checksum Unit (T-ADD, T-SUM, T-CMP, T-VER) -/

theorem test_csum_clr : seen .csumClr { State.reset with acc := 0xFF } (fun t => t.acc) = some 0x00 := by decide
/-- T-ADD-6. -/
theorem test_csum_add_wraps : seen (.csumAdd 0xFF) { State.reset with acc := 0xFF } (fun t => t.acc) = some 0xFE := by decide
/-- T-ADD-8. -/
theorem test_csum_add_no_saturation :
    seen (.csumAdd 0x01) { State.reset with acc := 0x7F } (fun t => t.acc) = some 0x80 := by decide
/-- T-SUM-8. -/
theorem test_sum8 : sum8 [0xAA, 0x55, 0x01] = 0x00 := by decide
/-- T-SUM-11, the widest sum. -/
theorem test_sum8_widest : sum8 (List.replicate 131 0xFF) = 0x7D := by decide +kernel
/-- T-CMP-1: the old last byte is not read. -/
theorem test_compute : seen (.compute [0x39, 0x00, 0x00, 0x55, 0xEE]) State.reset (fun t => (t.ret, t.matchF)) =
    some (.buffer [0x39, 0x00, 0x00, 0x55, 0x8E], false) := by decide
/-- T-CMP-2: length 1. -/
theorem test_compute_one_byte : seen (.compute [0xAB]) State.reset (fun t => t.ret) = some (.buffer [0x00]) := by decide
/-- T-VER-4. -/
theorem test_verify : seen (.verify [0x52, 0x01, 0x00, 0x53]) State.reset (fun t => (t.matchF, t.acc)) =
    some (true, 0x53) := by decide
/-- T-ERASE-2: the rejected literal. -/
theorem test_verify_rejected_erase :
    seen (.verify [0x39, 0x00, 0x00, 0x55, 0x8F]) State.reset (fun t => t.matchF) = some false := by decide
/-- E1. -/
theorem test_with_checksum_applied : seen (.withChecksumApplied [0x39, 0x00, 0x00, 0x55, 0xEE]) State.reset
    (fun t => t.ret) = some (.bytes [0x39, 0x00, 0x00, 0x55, 0x8E]) := by decide
/-- T-CMP-7. -/
theorem test_compute_empty : refusal (exec (.compute []) State.reset) = some .emptyBuffer := by decide

/-! ### The Frame Builder (T-ERASE, T-WR, T-RD) -/

/-- T-ERASE-1, and the buffer that holds it. -/
theorem test_build_erase : seen .buildErase State.reset (fun t => (t.ret, t.txFrame, t.trail)) =
    some (.bytes [0x39, 0x00, 0x00, 0x55, 0x8E], some [0x39, 0x00, 0x00, 0x55, 0x8E], [.build, .idle]) := by decide
/-- R25: BUILD is entered from IDLE alone. -/
theorem test_build_erase_in_session : refusal (exec .buildErase (session [])) = some .overlappingCall := by decide
/-- T-WR-4: eight real bytes, 120 of padding. -/
theorem test_build_write_chunk : seen (.buildWriteChunk 192 ramp200) State.reset (fun t => (t.ret, t.clen.val)) =
    some (.bytes ([0x57, 0x00, 0xC0] ++ ramp 0xC0 8 ++ zeros 120 ++ [0x33]), 8) := by decide +kernel
/-- T-WR-7: nothing is built. -/
theorem test_build_write_chunk_fault : seen (.buildWriteChunk 201 ramp200) State.reset (fun t => (t.result, t.txbuf)) =
    some (some (.fault (.indexOutOfRange 201 200)), []) := by decide +kernel
/-- T-RD-6: the checksum wraps. -/
theorem test_build_read_chunk : seen (.buildReadChunk 0xAEAE) State.reset (fun t => (t.ret, t.ofs)) =
    some (.bytes [0x52, 0xAE, 0xAE, 0xAE], 0xAEAE) := by decide
/-- T-OFS-5, T-OFS-7. -/
theorem test_offset_bytes : [offsetHi 0x1234, offsetLo 0x1234, offsetHi 0xFF00, offsetLo 0xFF00] =
    [0x12, 0x34, 0xFF, 0x00] := by decide

/-! ### The Transport Session (T-TR) -/

/-- T-TR-1. -/
theorem test_open : seen (.openPort ⟨0⟩) (bench []) (fun t => (t.portst, t.settings, t.ret)) =
    some (.opened, Config.serial, .handle .current) := by decide
/-- T-TR-2. -/
theorem test_open_fails : seen (.openPort ⟨7⟩) benchNoPort (fun t => (t.result, t.portst, t.phase, t.txs)) =
    some (some (.fault (.openFailed (some ⟨7⟩))), .closed, .idle, []) := by decide
/-- T-TR-3; T-TR-4, with two bytes out before the write broke. -/
theorem test_write_all :
    seen (.writeAll .current [0x39, 0x00, 0x00, 0x55, 0x8E]) (session []) (fun t => t.txs) =
      some [0x39, 0x00, 0x00, 0x55, 0x8E] ∧
    seen (.writeAll .current [0x39, 0x00, 0x00, 0x55, 0x8E])
      { benchBroken 2 with portst := .opened, phase := .sending } (fun t => (t.txs, t.result, t.portst)) =
      some ([0x39, 0x00], some (.fault .writeFailed), .closed) := by decide
/-- R119: the block never sends a second frame on the same handle; R74, U2: no other opcode. -/
theorem test_write_all_refused :
    refusal (exec (.writeAll .current [0x52, 0x01, 0x00, 0x53]) (sent [])) = some .outOfSequence ∧
    refusal (exec (.writeAll .current [0x41, 0x00, 0x00, 0x00]) (session [])) = some .notARequest := by decide
/-- T-TR-10: the second byte is never read; R119: nothing is read before the write. -/
theorem test_read_exact :
    seen (.readExact .current 1) (sent [0x06, 0x06]) (fun t => (t.rxBytes, t.rxs, t.phase)) =
      some (some [0x06], [0x06], .decoding) ∧
    refusal (exec (.readExact .current 1) (session [0x06])) = some .outOfSequence := by decide
/-- T-TR-9: one byte where 132 are awaited is a time-out, and the byte is discarded. -/
theorem test_read_exact_times_out : seen (.readExact .current 132) (sent [0x15]) (fun t => (t.result, t.rxbuf, t.rxs)) =
    some (some (.fault (.readTimeout 132)), [], []) := by decide
/-- T-TR-12. -/
theorem test_close : seen (.closePort .current) (session []) (fun t => (t.portst, t.phase)) = some (.closed, .idle) := by
  decide
/-- T-TR-13. -/
theorem test_exchange :
    seen (.exchange ⟨0⟩ [0x52, 0x01, 0x00, 0x53] 132) (bench (block 0x52 0xFF 0x01 (zeros 128) 0x52))
      (fun t => (t.trail, t.ret, t.portst)) =
      some ([.opening, .sending, .receiving, .idle], .bytes (block 0x52 0xFF 0x01 (zeros 128) 0x52), .closed) := by
  decide +kernel
/-- R23: no exchange in a session; R118, R119: an erase awaits one byte. -/
theorem test_exchange_refused :
    refusal (exec (.exchange ⟨0⟩ [0x52, 0x01, 0x00, 0x53] 132) (session [])) = some .overlappingCall ∧
    refusal (exec (.exchange ⟨0⟩ [0x39, 0x00, 0x00, 0x55, 0x8E] 132) (bench [])) = some (.responseLength 132) := by decide

/-! ### The Response Interpreter (T-ACK, T-DATA) -/

/-- T-ACK-1 and T-ACK-7. -/
theorem test_interpret_ack : seen (.interpretAck 0x06) State.reset (fun t => t.ackF) = some true := by decide
theorem test_interpret_nack : seen (.interpretAck 0x86) State.reset (fun t => t.ackF) = some false := by decide
/-- T-DATA-11: byte 1 = FE is no sentinel. -/
theorem test_interpret_read : seen (.interpretRead (block 0x52 0xFE 0x00 (ramp 0 128) 0x10)) State.reset
    (fun t => (t.ret, t.eodF, t.matchF)) = some (.block (some (ramp 0 128)), false, true) := by decide +kernel
/-- T-DATA-4: the sentinel beats a right checksum, and MATCH is not written. -/
theorem test_interpret_read_sentinel : seen (.interpretRead (block 0x52 0xFF 0x00 (ramp 0 128) 0x11)) State.reset
    (fun t => (t.ret, t.eodF, t.matchF)) = some (.block none, true, false) := by decide +kernel

/-! ### The commands (T-CMD, T-PRI) -/

/-- T-CMD-1; T-CMD-4, where the request was sent. -/
theorem test_erase :
    seen (.erase ⟨0⟩) (bench [0x06]) (fun t => (t.result, t.txs, t.portst, t.phase)) =
      some (some (.ack true), [0x39, 0x00, 0x00, 0x55, 0x8E], .closed, .idle) ∧
    seen (.erase ⟨0⟩) (bench []) (fun t => (t.result, t.txs)) =
      some (some (.fault (.readTimeout 1)), [0x39, 0x00, 0x00, 0x55, 0x8E]) := by decide
/-- R6, R29: a call starts with no frame and no result, and leaves no frame. -/
theorem test_erase_keeps_no_frame :
    (fun t : State => (t.result, t.rxbuf, t.phase))
      ({ State.reset with rxbuf := [(0, 0x06)], result := some (.ack true) }.startCall .read) = (none, [], .build) ∧
    seen (.erase ⟨0⟩) { benchNoPort with rxbuf := [(0, 0x06)], result := some (.ack true) }
      (fun t => (t.txbuf, t.rxbuf, t.result)) = some ([], [], some (.fault (.openFailed (some ⟨0⟩)))) := by decide
/-- T-CMD-8. -/
theorem test_write_chunk : seen (.writeChunk ⟨0⟩ 0 ramp200) (bench [0xFF]) (fun t => (t.result, t.txs)) =
    some (some (.ack false), [0x57, 0x00, 0x00] ++ ramp 0 128 ++ [0x17]) := by decide +kernel
/-- T-PRI-1: the offset is looked at before the port. -/
theorem test_write_chunk_out_of_range : seen (.writeChunk ⟨0⟩ 201 ramp200) benchNoPort
    (fun t => (t.result, t.env.opens, t.txs)) = some (some (.fault (.indexOutOfRange 201 200)), [false], []) := by
  decide +kernel
/-- T-CMD-11. -/
theorem test_read_chunk : seen (.readChunk ⟨0⟩ 0) (bench (block 0x52 0x00 0x00 (ramp 0 128) 0x12))
    (fun t => (t.result, t.txs)) = some (some (.data (some (ramp 0 128))), [0x52, 0x00, 0x00, 0x52]) := by decide +kernel
/-- T-CMD-12: a corrupt block is no data and no fault. -/
theorem test_read_chunk_corrupt : seen (.readChunk ⟨0⟩ 0) (bench (block 0x52 0x00 0x00 (ramp 0 128) 0x13))
    (fun t => (t.result, t.matchF)) = some (some (.data none), false) := by decide +kernel

/-- R140. -/
theorem test_fault_codes : [CallFault.openFailed none, .writeFailed, .readTimeout 1, .indexOutOfRange 201 200].map
    CallFault.code = [1, 2, 3, 4] := by decide

/-! ### The wire frames -/

theorem test_frame_erase : seen (.frameErase .fixed) (bench [0x15]) (fun t => (t.result, t.txs)) =
    some (some (.ack false), [0x39, 0x00, 0x00, 0x55, 0x8E]) := by decide
/-- U16: the device's reaction to a wrong checksum is open; a read frame goes out as it stands. -/
theorem test_frame_read_wrong_checksum : seen (.frameRead 0 0x53) (bench []) (fun t => (t.result, t.txs)) =
    some (some (.fault (.readTimeout 132)), [0x52, 0x00, 0x00, 0x53]) := by decide
/-- T-CMD-10 as a frame. -/
theorem test_frame_write : seen (.frameWrite 200 (zeros 128) 0x1F) (bench [0x06]) (fun t => (t.result, t.txs)) =
    some (some (.ack true), [0x57, 0x00, 0xC8] ++ zeros 128 ++ [0x1F]) := by decide +kernel
/-- T-CMD-14 as a frame: the sentinel although the checksum is right. -/
theorem test_frame_read : seen (.frameRead 0xFF00 0x51) (bench (block 0x52 0xFF 0x00 (ramp 0 128) 0x11))
    (fun t => (t.result, t.txs)) = some (some (.data none), [0x52, 0xFF, 0x00, 0x51]) := by decide +kernel
theorem test_frame_ack : seen .frameAck State.reset (fun t => (t.ackF, t.ret)) = some (true, .truth true) := by decide
/-- R26: nothing is received. -/
theorem test_frame_nack : seen (.frameNack 0x39) State.reset (fun t => (t.ackF, t.rxs, t.rxbuf)) = some (false, [], []) := by
  decide
/-- T-DATA-5. -/
theorem test_frame_eod : seen (.frameEod 0x52 0x01 (zeros 128) 0x52) State.reset (fun t => (t.ret, t.eodF)) =
    some (.block none, true) := by decide +kernel
/-- T-DATA-7. -/
theorem test_frame_data : seen (.frameData 0x00 0x00 0x00 (zeros 128) 0x00) State.reset (fun t => (t.ret, t.matchF)) =
    some (.block (some (zeros 128)), true) := by decide +kernel

/-! ### The line (R46, R77, R183) -/

/-- ACK is 0000 0110: start bit, least significant bit first, stop bit. -/
theorem test_line_character :
    lineCharacter 0x06 = [false, false, true, true, false, false, false, false, false, true] := by decide
theorem test_line_character_back : byteOfLineCharacter (lineCharacter 0x8E) = some 0x8E := by decide
/-- R183: 0.087 ms, 0.347 ms and 11.458 ms. -/
theorem test_line_times : (lineNanoseconds 1, lineNanoseconds 4, lineNanoseconds 132) = (86805, 347222, 11458333) := by decide

/-! ### Witnesses: the hypotheses of each obligation can be met, clause by clause -/

/-- A session whose next queued operation is a write. -/
def queued : State := { session [] with pending := [.invoke (.writeAll .current [0x52, 0x00, 0x00, 0x52])] }

theorem witness_StepKeepsTheInvariant : queued.Inv ∧ ∃ t, step queued = .next t :=
  ⟨⟨.inr ⟨.inl rfl, rfl⟩, .inl rfl, .inl rfl, rfl, rfl, rfl, by intro p h; simp [queued, session, bench, State.reset] at h⟩,
    _, rfl⟩
theorem witness_StepRunsTheHeadOfTheQueue :
    decodeFrame .deviceToBlock [0x15] = .ok (.frameNack 0x15) ∧ (Instr.frameNack 0x15).wf = true ∧
    decodeFrame .deviceToBlock [] = .error .empty ∧
    queued.pending = .invoke (.writeAll .current [0x52, 0x00, 0x00, 0x52]) :: [] ∧ State.reset.pending = [] := by decide
theorem witness_FetchWordRunsNext : decodeTableWord 8 0xFF = some (.frameNack 0xFF) := by decide
theorem witness_ChecksumRoundTripVerifies : ([0xAB] : List Byte) ≠ [] := by decide
/-- The last byte of a frame that verifies, and two covered bytes that change places. -/
theorem witness_OneByteChangeIsDetected :
    seen (.verify [0x52, 0x01, 0x00, 0x53]) State.reset (fun t => t.matchF) = some true ∧
    3 < [0x52, 0x01, 0x00, 0x53].length ∧ ([0x52, 0x01, 0x00, 0x53] : List Byte)[3]? ≠ some 0x54 ∧
    ([0x01, 0x02] : List Byte).Perm [0x02, 0x01] := by decide
/-- The image's end is within, one past it is not. -/
theorem witness_BuildWriteChunkLaysOutTheFrame : State.reset.phase = .idle ∧
    (200 : Offset).toNat ≤ ramp200.length ∧ ramp200.length < (201 : Offset).toNat := by decide +kernel
theorem witness_BuildEraseIsTheConstantFrame : State.reset.phase = .idle := rfl
theorem witness_BuildReadChunkLaysOutTheFrame : (bench []).phase = .idle := rfl
theorem witness_EveryBuiltFrameVerifies :
    seen (.buildReadChunk 0xFFFF) State.reset (fun t => t.ret) = some (.bytes [0x52, 0xFF, 0xFF, 0x50]) ∧
    seen .buildErase State.reset (fun t => t.ret) = some (.bytes [0x39, 0x00, 0x00, 0x55, 0x8E]) := by decide
theorem witness_OpenFollowsTheDraw :
    (bench []).phase = .idle ∧ (bench []).portst = .closed ∧ (bench []).env.openAnswer = true ∧
    benchNoPort.phase = .idle ∧ benchNoPort.portst = .closed ∧ benchNoPort.env.openAnswer = false := by decide
theorem witness_WriteAllIsAllOrFault :
    isRequest [0x52, 0x00, 0x00, 0x52] = true ∧ isRequest eraseFrame = true ∧
    isRequest (writeFrameBytes 0 (zeros 128) 0x57) = true ∧ (session []).portst = .opened ∧ (session []).phase = .sending ∧ (session []).env.writeAnswer = .complete ∧
    (benchBroken 4).env.writeAnswer = .broken 4 := by decide +kernel
/-- Exactly as many bytes as are awaited, and one too few. -/
theorem witness_ReadExactIsExactOrFault :
    (sent [0x06]).portst = .opened ∧ (sent [0x06]).phase = .receiving ∧ 1 ≤ (sent [0x06]).env.arrival.length ∧ (sent []).env.arrival.length < 1 ∧
    132 ≤ (sent (zeros 132)).env.arrival.length ∧ (sent (zeros 131)).env.arrival.length < 132 := by decide +kernel
theorem witness_ExchangeIsOneRoundTrip :
    isRequest [0x52, 0x00, 0x00, 0x52] = true ∧ 132 = awaited [0x52, 0x00, 0x00, 0x52] ∧ (bench (zeros 132)).phase = .idle ∧
    isRequest eraseFrame = true ∧ 1 = awaited eraseFrame ∧
    (bench (zeros 132)).env.delivers ∧ 132 ≤ (bench (zeros 132)).env.reply.length ∧
    (bench (zeros 131)).env.reply.length < 132 ∧ benchNoPort.env.openAnswer = false ∧
    (benchBroken 0).env.openAnswer = true ∧ (benchBroken 0).env.afterOpen.writeAnswer = .broken 0 :=
  ⟨by decide, by decide, rfl, by decide, by decide, ⟨rfl, rfl⟩, by decide +kernel, by decide +kernel, rfl, rfl, rfl⟩
theorem witness_TransportOperandsOutsideTheDomainAreRefused :
    isRequest [0x52, 0x00, 0x00, 0x52] = true ∧ (bench []).portst = .closed ∧ (bench []).phase = .idle ∧
    (sent []).portst = .opened ∧ (sent []).phase ≠ .sending ∧ (session []).portst = .opened ∧ (session []).phase ≠ .receiving ∧
    isRequest [] = false ∧ isRequest (zeros 132) = false ∧ isRequest [0x39, 0x00, 0x00, 0x55, 0x8F] = false ∧
    131 ≠ awaited [0x52, 0x00, 0x00, 0x52] ∧ 1 ≠ awaited [0x52, 0x00, 0x00, 0x52] ∧ 132 ≠ awaited eraseFrame ∧
    (0 : Nat) ≠ 1 ∧ (0 : Nat) ≠ 132 ∧ (131 : Nat) ≠ 1 ∧ (131 : Nat) ≠ 132 := by decide +kernel
/-- A sentinel block, a corrupt one and a good one (T-DATA-9, T-DATA-2, T-DATA-1). -/
theorem witness_InterpretReadTestsInOrder :
    (List.replicate 132 (0xFF : Byte))[1]? = some 0xFF ∧ (List.replicate 132 (0xFF : Byte)).length = 132 ∧
    (block 0x52 0 0 (ramp 0 128) 0x13).length = 132 ∧ (block 0x52 0 0 (ramp 0 128) 0x13)[1]? ≠ some 0xFF ∧
    (block 0x52 0 0 (ramp 0 128) 0x13)[131]? ≠ some (sum8 ((block 0x52 0 0 (ramp 0 128) 0x13).take 131)) ∧
    (block 0x52 0 0 (ramp 0 128) 0x12)[131]? = some (sum8 ((block 0x52 0 0 (ramp 0 128) 0x12).take 131)) := by
  decide +kernel
theorem witness_InterpretReadNeedsAWholeBlock :
    (zeros 131).length ≠ 132 ∧ (zeros 133).length ≠ 132 ∧ ([] : List Byte).length ≠ 132 := by decide +kernel
theorem witness_EraseReportsTheAcknowledgement :
    (bench [0x06]).phase = .idle ∧ (bench [0x06]).env.delivers ∧ (bench [0x06]).env.reply = 0x06 :: [] :=
  ⟨rfl, ⟨rfl, rfl⟩, rfl⟩
theorem witness_WriteChunkReportsTheAcknowledgement :
    (bench [0x15]).phase = .idle ∧ (200 : Offset).toNat ≤ ramp200.length ∧ (bench [0x15]).env.delivers ∧
    (bench [0x15]).env.reply = 0x15 :: [] :=
  ⟨rfl, by decide +kernel, ⟨rfl, rfl⟩, rfl⟩
theorem witness_ReadChunkReturnsThePayload :
    (bench (zeros 132)).phase = .idle ∧ (bench (zeros 132)).env.delivers ∧
    (bench (zeros 132)).env.reply = zeros 132 ++ [] ∧ (zeros 132).length = 132 :=
  ⟨rfl, ⟨rfl, rfl⟩, by simp [bench, Env.reply, Env.scripted, Env.arrival, Env.afterOpen, Env.afterWrite], by decide +kernel⟩
theorem witness_EveryCommandCompletes : (Instr.writeChunk ⟨0⟩ 0xFFFF []).isCommand = true ∧ State.reset.phase = .idle := by
  decide
theorem witness_FirstFaultInPhaseOrderWins :
    ([] : List Byte).length < (1 : Offset).toNat ∧ (0 : Offset).toNat ≤ ([] : List Byte).length ∧
    benchNoPort.env.openAnswer = false ∧ (benchBroken 1).env.openAnswer = true ∧
    (benchBroken 1).env.afterOpen.writeAnswer = .broken 1 ∧ (bench []).env.delivers ∧ (bench []).env.reply.length < 1 ∧
    (bench []).phase = .idle ∧ benchNoPort.phase = .idle ∧ (benchBroken 1).phase = .idle :=
  ⟨by decide, by decide, rfl, rfl, rfl, ⟨rfl, rfl⟩, by decide, rfl, rfl, rfl⟩
theorem witness_FaultEntryClosesAndIdles :
    seen (.erase ⟨0⟩) benchNoPort (fun t => t.ret) = some (.result (.fault (.openFailed (some ⟨0⟩)))) := by decide
/-- A port that would not open, and a script that answers the erase after it. -/
theorem witness_FaultIsNotSticky :
    ∃ t, exec (.erase ⟨0⟩) { State.reset with
        env := { opens := [false, true], writes := [.complete], arrivals := [[0x06]], drawn := 0 } } = .next t ∧
      t.ret = .result (.fault (.openFailed (some ⟨0⟩))) ∧ t.env.delivers ∧ t.env.reply = 0x06 :: [] :=
  ⟨_, rfl, rfl, ⟨rfl, rfl⟩, rfl⟩
theorem witness_PhaseNeverMovesBackwards :
    (Instr.frameRead 0 0x52).isRequest = true ∧
    seen (.frameRead 0 0x52) benchNoPort (fun t => t.trail) = some [.build, .opening, .idle] ∧
    (Instr.readChunk ⟨0⟩ 0).isCommand = true ∧ (session []).phase ≠ .idle := by decide
theorem witness_OneExchangePerCall :
    (Instr.erase ⟨0⟩).isCommand = true ∧ seen (.erase ⟨0⟩) (bench [0x06]) (fun t => t.rxs) = some [0x06] := by decide
/-- Two states that agree on the environment and on nothing else that a call could look at. -/
theorem witness_CommandsDependOnOperandsAndDrawsOnly :
    (bench [0x06]).env = ({ bench [0x06] with acc := 1, ofs := 2, kind := .read, txs := [3] } : State).env ∧
    (seen (.erase ⟨0⟩) (bench [0x06]) (fun t => t.txs)).isSome = true ∧
    (seen (.erase ⟨0⟩) { bench [0x06] with acc := 1, ofs := 2, kind := .read, txs := [3] } (fun t => t.txs)).isSome = true := by
  decide
theorem witness_ResponseLengthFollowsTheKind :
    (bench (zeros 132)).phase = .idle ∧ (0 : Offset).toNat ≤ ([] : List Byte).length ∧ (bench (zeros 132)).env.delivers ∧
    132 ≤ (bench (zeros 132)).env.reply.length ∧ (bench (zeros 131)).env.delivers ∧
    (bench (zeros 131)).env.reply.length < 132 ∧ 1 ≤ (bench [0x06]).env.reply.length ∧ (bench []).env.reply.length < 1 :=
  ⟨rfl, by decide +kernel, ⟨rfl, rfl⟩, by decide +kernel, ⟨rfl, rfl⟩, by decide +kernel, by decide, by decide⟩
theorem witness_NoReceivedByteCausesAFault :
    (Instr.erase ⟨0⟩).isCommand = true ∧ (bench (List.replicate 132 0xFF)).env.delivers ∧
    awaited (Instr.erase ⟨0⟩).requestFrame ≤ (bench (List.replicate 132 0xFF)).env.reply.length ∧
    awaited (Instr.readChunk ⟨0⟩ 0).requestFrame ≤ (bench (List.replicate 132 0xFF)).env.reply.length ∧
    seen (.erase ⟨0⟩) (bench (List.replicate 132 0xFF)) (fun t => t.result) = some (some (.ack false)) :=
  ⟨rfl, ⟨rfl, rfl⟩, by decide +kernel, by decide +kernel, by decide +kernel⟩
theorem witness_RequestFramesRunTheirCall :
    (bench (zeros 132)).phase = .idle ∧ (bench (zeros 132)).env.delivers ∧
    (bench (zeros 132)).env.reply = 0x00 :: zeros 131 ∧ (zeros 128).length = 128 ∧ (zeros 132).length = 132 :=
  ⟨rfl, ⟨rfl, rfl⟩, rfl, by decide +kernel, by decide +kernel⟩
theorem witness_RequestFrameEqualsItsCommand :
    (bench [0x06]).phase = .idle ∧ (bench [0x06]).env.openAnswer = true ∧ (200 : Offset).toNat ≤ ramp200.length := by
  decide +kernel
theorem witness_FramesThatCannotRunAreRefused :
    (session []).phase ≠ .idle ∧ (zeros 128).length = 128 ∧ (zeros 127).length ≠ 128 ∧ (zeros 129).length ≠ 128 := by decide +kernel
theorem witness_ResponseFramesAreInterpreted :
    (0x00 : Byte) ≠ 0x06 ∧ (zeros 128).length = 128 ∧ (0xFE : Byte) ≠ 0xFF := by decide +kernel
/-- One next state serves the four statements about every instruction. -/
theorem witness_WholeMachineRules :
    (seen (.closePort .current) (session []) (fun t => t.portst)).isSome = true ∧
    (Instr.closePort .current).checksummed = true ∧ (session []).txbuf = [] ∧ (session []).settings = Config.serial ∧
    (Instr.closePort .current).footprint = {} := by decide
theorem witness_DecodeOfEncodeIsTheInstruction :
    (Instr.frameRead 0xFFFF 0x50).wf = true ∧ (Instr.frameErase .fixed).wf = true ∧
    encode (.frameRead 0xFFFF 0x50) = some (.blockToDevice, [0x52, 0xFF, 0xFF, 0x50]) := by decide
theorem witness_DecodedBytesAreTheEncoding : decodeFrame .deviceToBlock [0x00] = .ok (.frameNack 0x00) := by decide
theorem witness_RequestsComeOffTheStreamOneByOne :
    (Instr.frameErase .fixed).wf = true ∧
    encode (.frameErase .fixed) = some (.blockToDevice, [0x39, 0x00, 0x00, 0x55, 0x8E]) := by decide
theorem witness_EveryResponseDecodesAndNoOtherOpcodeDoes :
    (zeros 132).length = 132 ∧
    (0x38 : Byte) ≠ 0x39 ∧ (0x38 : Byte) ≠ 0x57 ∧ (0x38 : Byte) ≠ 0x52 := by decide +kernel
theorem witness_NoFrameIsRetainedAcrossCalls :
    (Instr.frameErase .fixed).isRequest = true ∧ seen (.frameErase .fixed) (bench [0x06]) (fun t => t.txbuf) = some [] := by decide
theorem witness_OneFramePerHandle :
    seen (.writeAll .current eraseFrame) (session []) (fun t => t.phase) = some .receiving ∧
    seen (.readExact .current 1) (sent [0x06]) (fun t => t.phase) = some .decoding ∧
    seen (.openPort ⟨0⟩) (bench []) (fun t => (t.portst, t.phase)) = some (.opened, .sending) ∧
    seen (.csumAdd 0x01) (sent []) (fun t => (t.portst, t.phase)) = some (.opened, .receiving) := by decide
theorem witness_OnlyRequestsAreSent :
    seen (.writeAll .current eraseFrame) (session []) (fun t => t.txs) = some [0x39, 0x00, 0x00, 0x55, 0x8E] := by decide

end Sys2Proof.Tests
end

section
/-! PROOFS. The statements of 30_encoding: `with_checksum_applied` (R79) and the offset on the wire (R66). -/

namespace Sys2Proof.Machine

/-- A non-empty operand is copied, closed by `compute` and yielded; of the state only ACC and the yield are written. -/
theorem execWithChecksumApplied_of_ne_nil {b : List Byte} (hb : b ≠ []) (s : State) :
    execWithChecksumApplied b s =
      .next { s with acc := sum8 (covered b), ret := .bytes (covered b ++ [sum8 (covered b)]) } := by
  simp only [execWithChecksumApplied, if_neg hb, computeOn_eq]
  rfl

/-- Settles O10: `compute` on the copy `body ++ [old]` covers exactly `body`. -/
theorem withChecksumAppliedYieldsTheClosedCopy : Obligations.WithChecksumAppliedYieldsTheClosedCopy := by
  intro body old s
  have hne : body ++ [old] ≠ [] := by simp
  calc exec (.withChecksumApplied (body ++ [old])) s
      = execWithChecksumApplied (body ++ [old]) s := rfl
    _ = .next { s with acc := sum8 body, ret := .bytes (body ++ [sum8 body]) } := by
      rw [execWithChecksumApplied_of_ne_nil hne, covered_concat]

/-- Settles O53: the bytes at indices 1 and 2 are `OFS[15:8]` and `OFS[7:0]`. -/
theorem offsetIsBigEndianOnTheWire : Obligations.OffsetIsBigEndianOnTheWire := by
  intro o pay ck
  exact ⟨offsetHi o, offsetLo o, offsetHi_toNat o, offsetLo_toNat o, rfl, rfl⟩

end Sys2Proof.Machine
end

section
/-! PROOFS. The statements of 40_checksum: the Checksum Unit's four operations (R90 to R95). -/

namespace Sys2Proof.Machine

/-! ### What each operation answers -/

theorem exec_csumClr (s : State) : exec .csumClr s = .next { s with acc := 0, ret := .nothing } := rfl

theorem exec_csumAdd (b : Byte) (s : State) :
    exec (.csumAdd b) s = .next { s with acc := s.acc + b, ret := .nothing } := rfl

/-- A non-empty buffer is closed over the bytes before its last, and no flag is written (R93). -/
theorem exec_compute_of_ne_nil {frame : List Byte} (hne : frame ≠ []) (s : State) :
    exec (.compute frame) s =
      .next { s with acc := sum8 (covered frame), ret := .buffer (covered frame ++ [sum8 (covered frame)]) } := by
  change execCompute frame s = _
  simp only [execCompute, if_neg hne, computeOn_eq]
  rfl

/-- On a non-empty sequence MATCH and the yielded value are closedness (R94). -/
theorem exec_verify_of_ne_nil {frame : List Byte} (hne : frame ≠ []) (s : State) :
    exec (.verify frame) s =
      .next { s with acc := sum8 (covered frame), matchF := closed frame, ret := .truth (closed frame) } := by
  change execVerify frame s = _
  simp only [execVerify, if_neg hne, verifyOn_eq]
  rfl

theorem exec_compute_concat (body : List Byte) (old : Byte) (s : State) :
    exec (.compute (body ++ [old])) s =
      .next { s with acc := sum8 body, ret := .buffer (body ++ [sum8 body]) } := by
  rw [exec_compute_of_ne_nil (List.concat_ne_nil old body), covered_concat]

theorem exec_verify_concat (body : List Byte) (last : Byte) (s : State) :
    exec (.verify (body ++ [last])) s =
      .next { s with acc := sum8 body, matchF := last == sum8 body, ret := .truth (last == sum8 body) } := by
  rw [exec_verify_of_ne_nil (List.concat_ne_nil last body), covered_concat, closed_concat]

/-- A body followed by its own sum verifies (R95). -/
theorem exec_verify_sum8 (body : List Byte) (s : State) :
    exec (.verify (body ++ [sum8 body])) s =
      .next { s with acc := sum8 body, matchF := true, ret := .truth true } := by
  rw [exec_verify_concat, beq_self_eq_true]

/-! ### Runs of CSUM.ADD -/

theorem execAll_cons_of_next {i : Instr} {s t : State} (h : exec i s = .next t) (is : List Instr) :
    execAll (i :: is) s = execAll is t := by
  simp only [execAll, h]

/-- One `CSUM.ADD` a byte adds the bytes' sum to whatever ACC held. -/
theorem execAll_csumAdd (bs : List Byte) (s : State) (a : Byte) :
    execAll (bs.map .csumAdd) { s with acc := a, ret := .nothing } =
      .next { s with acc := a + sum8 bs, ret := .nothing } := by
  induction bs generalizing a with
  | nil => simp [execAll]
  | cons b bs ih =>
    rw [List.map_cons, execAll_cons_of_next (exec_csumAdd b _), sum8_cons, ← BitVec.add_assoc]
    exact ih (a + b)

theorem execAll_csumClr_csumAdd (bs : List Byte) (s : State) :
    execAll (.csumClr :: bs.map .csumAdd) s = .next { s with acc := sum8 bs, ret := .nothing } := by
  rw [execAll_cons_of_next (exec_csumClr s), execAll_csumAdd]
  simp

/-- Comparing a byte with the wrapping sum compares its value with the natural-number sum modulo 256 (R92, R94). -/
theorem beq_sum8_iff (last : Byte) (body : List Byte) :
    (last == sum8 body) = true ↔ last.toNat = (body.map BitVec.toNat).sum % 256 := by
  rw [beq_iff_eq, ← sum8_toNat, BitVec.toNat_inj]

/-! ### The statements -/

/-- Settles O6: it is what `CSUM.CLR` answers, by `exec_csumClr`. -/
theorem csumClrZeroesTheAccumulator : Obligations.CsumClrZeroesTheAccumulator := exec_csumClr

/-- Settles O7: the sum of two bytes as bit vectors is their sum modulo 256. -/
theorem csumAddWrapsAtEightBits : Obligations.CsumAddWrapsAtEightBits := by
  intro b s
  exact ⟨_, exec_csumAdd b s, BitVec.toNat_add s.acc b, rfl⟩

/-- Settles O8: after CLR the run of ADDs starts from zero, so ACC ends with the sum alone. -/
theorem accumulatorHoldsTheWrappingSum : Obligations.AccumulatorHoldsTheWrappingSum := by
  refine ⟨sum8_nil, fun bs b => ?_, sum8_toNat, fun bs s => ?_⟩
  · rw [sum8_concat, BitVec.toNat_add]
  · exact ⟨_, execAll_csumClr_csumAdd bs s, rfl, rfl⟩

/-- Settles O9: the old last byte does not matter, so the second pass is the case where it is the sum already. -/
theorem computeOverwritesTheLastByte : Obligations.ComputeOverwritesTheLastByte := by
  intro body old s
  exact ⟨exec_compute_concat body old s, exec_compute_concat body (sum8 body) s⟩

/-- Settles O11: the truth value is whether the last byte is the body's wrapping sum. -/
theorem verifyComparesTheLastByte : Obligations.VerifyComparesTheLastByte := by
  intro body last s
  exact ⟨last == sum8 body, beq_sum8_iff last body, exec_verify_concat body last s⟩

/-- Settles O13: both operations yield the covered bytes followed by their sum, a frame that verifies from any state. -/
theorem checksumRoundTripVerifies : Obligations.ChecksumRoundTripVerifies := by
  intro b s hb
  exact ⟨covered b ++ [sum8 (covered b)], _, _,
    execWithChecksumApplied_of_ne_nil hb s, rfl, exec_verify_sum8 (covered b) _, rfl, rfl,
    _, _, exec_compute_of_ne_nil hb s, rfl, exec_verify_sum8 (covered b) _, rfl⟩

end Sys2Proof.Machine
end

section
/-! PROOFS. The statements of 30_encoding: the decoder against the encoder (R60 to R64, R68 to R75, R80). -/

namespace Sys2Proof.Machine

/-! ### A frame of `n + 1` bytes is `n` bytes and a last one -/

theorem dropLast_concat_getLastD {l : List Byte} (h : l ≠ []) : l.dropLast ++ [l.getLastD 0] = l := by
  rw [List.getLastD_eq_getLast?, List.getLast?_eq_getLast_of_ne_nil h]
  exact List.dropLast_concat_getLast h

/-- Everything after a header and before the checksum byte is payload (R63, R69). -/
theorem exists_payload_of_length {n : Nat} {body : List Byte} (h : body.length = n + 1) :
    body.dropLast.length = n ∧ body.dropLast ++ [body.getLastD 0] = body :=
  ⟨by simp [h], dropLast_concat_getLastD (List.ne_nil_of_length_eq_add_one h)⟩

/-! ### What the decoder makes of each format -/

theorem decodeRequest_eraseFrame : decodeRequest eraseFrame = .ok (.frameErase .fixed) := by decide

theorem decodeRequest_writeFrameBytes (o : Offset) {p : List Byte} (ck : Byte) (hp : p.length = 128) :
    decodeRequest (writeFrameBytes o p ck) = .ok (.frameWrite o p ck) := by
  simp [writeFrameBytes, decodeRequest, hp]

theorem decodeRequest_readFrameBytes (o : Offset) (ck : Byte) :
    decodeRequest (readFrameBytes o ck) = .ok (.frameRead o ck) := by
  simp [readFrameBytes, decodeRequest]

theorem decodeRequest_unknownOpcode {op : Byte} (rest : List Byte) (h39 : op ≠ 0x39) (h57 : op ≠ 0x57)
    (h52 : op ≠ 0x52) : decodeRequest (op :: rest) = .error (.unknownOpcode op) := by
  simp only [decodeRequest, if_neg h39, if_neg h57, if_neg h52]

theorem decodeResponse_singleton (r : Byte) :
    decodeResponse [r] = .ok (if r = 0x06 then .frameAck else .frameNack r) := by
  rw [apply_ite Except.ok]
  rfl

theorem decodeResponse_dataFrameBytes (e0 fl e2 : Byte) {p : List Byte} (ck : Byte) (hp : p.length = 128) :
    decodeResponse (dataFrameBytes e0 fl e2 p ck) =
      .ok (if fl = 0xFF then .frameEod e0 e2 p ck else .frameData e0 fl e2 p ck) := by
  rw [apply_ite Except.ok]
  simp [dataFrameBytes, decodeResponse, hp]

/-! ### Which byte sequences the decoder takes -/

/-- The bytes of a request are those of one of the three formats, in every byte but the operands (R62 to R64, R73, R74). -/
theorem isRequest_iff (f : List Byte) :
    isRequest f = true ↔ f = eraseFrame ∨ (∃ o p ck, p.length = 128 ∧ f = writeFrameBytes o p ck) ∨
      ∃ o ck, f = readFrameBytes o ck := by
  constructor
  · intro h
    simp only [isRequest, Bool.or_eq_true, Bool.and_eq_true, beq_iff_eq] at h
    rcases h with (h | ⟨hop, hlen⟩) | ⟨hop, hlen⟩
    · exact .inl h
    · obtain ⟨op, hi, lo, body, rfl⟩ : ∃ op hi lo body, f = op :: hi :: lo :: body := by
        match f, hlen with
        | op :: hi :: lo :: body, _ => exact ⟨op, hi, lo, body, rfl⟩
      obtain ⟨hp, hbody⟩ := exists_payload_of_length (n := 128) (body := body) (by simpa [Config.lenWrite] using hlen)
      obtain rfl : op = Config.opWrite := by simpa using hop
      exact .inr (.inl ⟨offsetOf hi lo, body.dropLast, body.getLastD 0, hp, by simp only [writeFrameBytes, hbody,
        offsetHi_offsetOf, offsetLo_offsetOf]⟩)
    · obtain ⟨op, hi, lo, ck, rfl⟩ := List.length_eq_four.mp hlen
      obtain rfl : op = Config.opRead := by simpa using hop
      exact .inr (.inr ⟨offsetOf hi lo, ck, by simp [readFrameBytes]⟩)
  · rintro (rfl | ⟨o, p, ck, hp, rfl⟩ | ⟨o, ck, rfl⟩)
    · rfl
    · exact isRequest_writeFrameBytes o p ck hp
    · exact isRequest_readFrameBytes o ck

/-- Past its opcode, its length and the erase frame's fixed bytes the decoder refuses no request (R62 to R64, R73, R74). -/
theorem isRequest_of_decodeRequest {bs : List Byte} {i : Instr} (h : decodeRequest bs = .ok i) :
    isRequest bs = true := by
  unfold decodeRequest at h
  split at h
  · cases h
  · rename_i op rest
    by_cases h39 : op = Config.opErase
    · rw [if_pos h39] at h
      split at h
      · split at h
        · rename_i hfixed
          obtain ⟨rfl, rfl, rfl, rfl⟩ := hfixed
          rw [h39]; rfl
        · cases h
      · cases h
    rw [if_neg h39] at h
    by_cases h57 : op = Config.opWrite
    · rw [if_pos h57] at h
      split at h
      · split at h
        · rename_i hlen
          simp [isRequest, h57, hlen]
        · cases h
      · cases h
    rw [if_neg h57] at h
    by_cases h52 : op = Config.opRead
    · rw [if_pos h52] at h
      split at h
      · simp [isRequest, h52]
      · cases h
    · rw [if_neg h52] at h
      cases h

/-- What decodes as a request is the encoding of the instruction it decodes to. -/
theorem encode_of_decodeRequest {bs : List Byte} {i : Instr} (h : decodeRequest bs = .ok i) :
    encode i = some (.blockToDevice, bs) := by
  rcases (isRequest_iff bs).mp (isRequest_of_decodeRequest h) with rfl | ⟨o, p, ck, hp, rfl⟩ | ⟨o, ck, rfl⟩
  · rw [decodeRequest_eraseFrame] at h; cases h; rfl
  · rw [decodeRequest_writeFrameBytes o ck hp] at h; cases h; rfl
  · rw [decodeRequest_readFrameBytes] at h; cases h; rfl

/-- The 132 bytes of a read-data block, each in its field (R69). -/
theorem exists_dataFrameBytes {bs : List Byte} (h : bs.length = 132) :
    ∃ e0 fl e2 p ck, p.length = 128 ∧ bs = dataFrameBytes e0 fl e2 p ck := by
  match bs, h with
  | e0 :: fl :: e2 :: body, h =>
    obtain ⟨hp, hbody⟩ := exists_payload_of_length (n := 128) (body := body) (by simpa using h)
    exact ⟨e0, fl, e2, body.dropLast, body.getLastD 0, hp, by rw [dataFrameBytes, hbody]⟩

/-- A response that decodes has one byte or 132 (R61, R68, R69). -/
theorem length_of_decodeResponse {bs : List Byte} {i : Instr} (h : decodeResponse bs = .ok i) :
    bs.length = 1 ∨ bs.length = 132 := by
  unfold decodeResponse at h
  split at h
  · cases h
  · exact .inl rfl
  · split at h
    · cases h
    · split at h
      · rename_i hlen
        exact .inr (by simp [hlen])
      · cases h

/-- What decodes as a response is the encoding of the instruction it decodes to. -/
theorem encode_of_decodeResponse {bs : List Byte} {i : Instr} (h : decodeResponse bs = .ok i) :
    encode i = some (.deviceToBlock, bs) := by
  rcases length_of_decodeResponse h with hlen | hlen
  · obtain ⟨r, rfl⟩ := List.length_eq_one_iff.mp hlen
    rw [decodeResponse_singleton] at h
    cases h
    split
    · rename_i hr; rw [hr]; rfl
    · rfl
  · obtain ⟨e0, fl, e2, p, ck, hp, rfl⟩ := exists_dataFrameBytes hlen
    rw [decodeResponse_dataFrameBytes e0 fl e2 ck hp] at h
    cases h
    split
    · rename_i hfl; rw [hfl]; rfl
    · rfl

/-- The length of an instruction's frame is that of its format, whatever the instruction. -/
theorem frameLength_statement (i : Instr) : Laws.FrameLength.Statement i := by
  cases i with
  | frameErase ck => exact Laws.FrameLength.frameErase ck
  | frameWrite o p ck => exact Laws.FrameLength.frameWrite o p ck
  | frameRead o ck => exact Laws.FrameLength.frameRead o ck
  | frameAck => exact Laws.FrameLength.frameAck
  | frameNack r => exact Laws.FrameLength.frameNack r
  | frameEod e0 e2 p ck => exact Laws.FrameLength.frameEod e0 e2 p ck
  | frameData e0 fl e2 p ck => exact Laws.FrameLength.frameData e0 fl e2 p ck
  | _ => exact Laws.FrameLength.of_no_frame rfl

/-! ### The statements -/

/-- Settles O49: one decoding lemma for each of the seven frame kinds; an operation has no frame. -/
theorem decodeOfEncodeIsTheInstruction : Obligations.DecodeOfEncodeIsTheInstruction := by
  intro i d bs hwf henc
  cases i <;> cases henc
  case frameErase ck => cases ck; exact decodeRequest_eraseFrame
  case frameWrite o p ck => exact decodeRequest_writeFrameBytes o ck (by simpa [Instr.wf] using hwf)
  case frameRead o ck => exact decodeRequest_readFrameBytes o ck
  case frameAck => exact decodeResponse_singleton 0x06
  case frameNack r =>
    have hr : r ≠ 0x06 := by simpa [Instr.wf] using hwf
    exact (decodeResponse_singleton r).trans (by rw [if_neg hr])
  case frameEod e0 e2 p ck => exact decodeResponse_dataFrameBytes e0 0xFF e2 ck (by simpa [Instr.wf] using hwf)
  case frameData e0 fl e2 p ck =>
    obtain ⟨hfl, hp⟩ : fl ≠ 0xFF ∧ p.length = 128 := by simpa [Instr.wf] using hwf
    exact (decodeResponse_dataFrameBytes e0 fl e2 ck hp).trans (by rw [if_neg hfl])

/-- Settles O50: the decoder of each direction takes only encodings. -/
theorem decodedBytesAreTheEncoding : Obligations.DecodedBytesAreTheEncoding := by
  intro d bs i h
  cases d with
  | blockToDevice => exact encode_of_decodeRequest h
  | deviceToBlock => exact encode_of_decodeResponse h

/-- Settles O51: byte 0 announces the frame's length, so exactly the frame is taken off and decoded. -/
theorem requestsComeOffTheStreamOneByOne : Obligations.RequestsComeOffTheStreamOneByOne := by
  intro i bs rest hwf henc
  have hdec : decodeRequest bs = .ok i := decodeOfEncodeIsTheInstruction i .blockToDevice bs hwf henc
  have hlen := (frameLength_statement i hwf bs).1 henc
  cases bs with
  | nil => cases hdec
  | cons op tail =>
    have hlen : requestLength op = some (op :: tail).length := hlen
    have htake : (op :: (tail ++ rest)).take (op :: tail).length = op :: tail := List.take_left (l₁ := op :: tail)
    have hdrop : (op :: (tail ++ rest)).drop (op :: tail).length = rest := List.drop_left (l₁ := op :: tail)
    simp only [List.cons_append, takeRequest, hlen, htake, hdrop, hdec]

/-- Settles O52: the fields of a block are read off its 132 bytes, then `decodeResponse_dataFrameBytes`. -/
theorem everyResponseDecodesAndNoOtherOpcodeDoes : Obligations.EveryResponseDecodesAndNoOtherOpcodeDoes := by
  refine ⟨decodeResponse_singleton, fun bs hlen => ?_, fun op rest => decodeRequest_unknownOpcode rest⟩
  obtain ⟨e0, fl, e2, p, ck, hp, rfl⟩ := exists_dataFrameBytes hlen
  exact ⟨e0, fl, e2, p, ck, rfl, hp, decodeResponse_dataFrameBytes e0 fl e2 ck hp⟩

/-- Settles O54: each word is its format's bytes with the operands written out. -/
theorem decodesTheSpecsWords : Obligations.DecodesTheSpecsWords := by
  have hp : (List.replicate 128 (0x00 : Byte)).length = 128 := List.length_replicate
  unfold Obligations.DecodesTheSpecsWords
  generalize List.replicate 128 (0x00 : Byte) = zeroPayload at hp
  refine ⟨decodeRequest_eraseFrame, decodeRequest_readFrameBytes 0x0100 0x53, ?_,
    decodeResponse_singleton 0x06, decodeResponse_singleton 0x15, ?_, ?_⟩
  · exact decodeRequest_writeFrameBytes 0x00C0 0x17 hp
  · exact decodeResponse_dataFrameBytes 0x52 0xFF 0x01 0x52 hp
  · exact decodeResponse_dataFrameBytes 0x00 0x00 0x00 0x00 hp

/-- Settles O58: both sides are the three formats, `isRequest_iff` and the decoding of each. -/
theorem requestsAreWhatTheDecoderTakes : Obligations.RequestsAreWhatTheDecoderTakes := by
  intro f
  constructor
  · intro h
    rcases (isRequest_iff f).mp h with rfl | ⟨o, p, ck, hp, rfl⟩ | ⟨o, ck, rfl⟩
    · exact ⟨_, decodeRequest_eraseFrame⟩
    · exact ⟨_, decodeRequest_writeFrameBytes o ck hp⟩
    · exact ⟨_, decodeRequest_readFrameBytes o ck⟩
  · rintro ⟨i, h⟩
    exact isRequest_of_decodeRequest h

end Sys2Proof.Machine
end

section
/-! PROOFS. What the checksum detects (40_checksum section 5), and the Response Interpreter (43_response R125, R126). -/

namespace Sys2Proof.Machine

/-! ### A change of one byte -/

/-- One changed byte opens a closed frame: a covered byte moves the sum, the last byte moves away from it (R96). -/
theorem closed_set_eq_false {f : List Byte} {i : Nat} {v : Byte} (hc : closed f = true) (hi : i < f.length)
    (hv : f[i]? ≠ some v) : closed (f.set i v) = false := by
  obtain ⟨body, rfl⟩ := (closed_iff f).mp hc
  rcases Nat.lt_or_ge i body.length with hlt | hge
  · have hbyte : body[i] ≠ v := fun h => hv (by rw [List.getElem?_append_left hlt, List.getElem?_eq_getElem hlt, h])
    have hsum : sum8 body ≠ sum8 (body.set i v) := fun h => by
      have hmoved := sum8_set body i v hlt
      rw [← h] at hmoved
      exact hbyte ((BitVec.add_right_inj _).mp hmoved)
    rw [List.set_append_left _ _ hlt, closed_concat]
    exact beq_false_of_ne hsum
  · obtain rfl : i = body.length := by simp at hi; omega
    have hlast : v ≠ sum8 body := fun h => hv (by simp [h])
    rw [List.set_append_right _ _ hge, Nat.sub_self, List.set_cons_zero, closed_concat]
    exact beq_false_of_ne hlast

/-- `verify` answers on a non-empty sequence alone, and MATCH is then closedness (R94, 92 D7). -/
theorem matchF_of_exec_verify {f : List Byte} {s t : State} (h : exec (.verify f) s = .next t) :
    t.matchF = closed f := by
  by_cases hne : f = []
  · subst hne; cases h
  · rw [exec_verify_of_ne_nil hne] at h
    cases h; rfl

/-- Settles O14: MATCH is closedness, which one changed byte ends, and which depends on the body by its sum alone. -/
theorem oneByteChangeIsDetected : Obligations.OneByteChangeIsDetected := by
  refine ⟨fun f i v s t hexec hmatch hi hv => ?_, fun body body' last s t hperm hexec => ?_, fun n s => ?_, fun s => ?_⟩
  · have hc : closed f = true := (matchF_of_exec_verify hexec).symm.trans hmatch
    have hne : f.set i v ≠ [] := by simpa using closed_ne_nil hc
    exact ⟨_, exec_verify_of_ne_nil hne s, closed_set_eq_false hc hi hv⟩
  · refine ⟨_, exec_verify_concat body' last s, ?_⟩
    rw [matchF_of_exec_verify hexec, closed_concat, sum8_perm hperm]
  · refine ⟨_, exec_verify_of_ne_nil (by simp) s, ?_⟩
    change closed (List.replicate (n + 1) 0) = true
    rw [List.replicate_succ', closed_concat]
    exact beq_iff_eq.mpr (sum8_replicate_zero n).symm
  · exact ⟨_, exec_verify_sum8 [0x80, 0x80] s, rfl⟩

/-- Settles O12: each of the three tests its operand for emptiness before anything else. -/
theorem emptyBufferIsRefused : Obligations.EmptyBufferIsRefused := fun _ => ⟨rfl, rfl, rfl⟩

/-! ### A block of a known length -/

theorem covered_of_length {f : List Byte} {n : Nat} (h : f.length = n + 1) : covered f = f.take n := by
  rw [covered_eq_take, h, Nat.add_sub_cancel]

theorem closed_of_length {f : List Byte} {n : Nat} (h : f.length = n + 1) :
    closed f = (f[n]? == some (sum8 (f.take n))) := by
  rw [closed, List.getLast?_eq_getElem?, covered_of_length h, h, Nat.add_sub_cancel]

theorem eodOf_eq_true_iff (block : List Byte) : eodOf block = true ↔ block[1]? = some 0xFF := by
  simp [eodOf]

/-- The payload of a block, byte by byte: indices 3 to 130 (R126 (d)). -/
theorem payloadOf_getElem? (block : List Byte) {i : Nat} (hi : i < 128) : (payloadOf block)[i]? = block[3 + i]? := by
  simp [payloadOf, List.getElem?_take_of_lt hi]

@[simp] theorem payloadOf_dataFrameBytes (e0 fl e2 : Byte) {p : List Byte} (ck : Byte) (hp : p.length = 128) :
    payloadOf (dataFrameBytes e0 fl e2 p ck) = p := by
  simp [payloadOf, dataFrameBytes, ← hp]

/-! ### What the interpreters answer -/

theorem exec_interpretAck (r : Byte) (s : State) :
    exec (.interpretAck r) s = .next { s with ackF := r == 0x06, ret := .truth (r == 0x06) } := by
  change execInterpretAck r s = _
  simp only [execInterpretAck, interpretAckOn, ackOf_cons]
  rfl

/-- On a sentinel block EOD alone is written (R126 (a)). -/
theorem exec_interpretRead_sentinel {block : List Byte} (hlen : block.length = 132) (h : eodOf block = true)
    (s : State) : exec (.interpretRead block) s = .next { s with eodF := true, ret := .block none } := by
  change execInterpretRead block s = _
  simp only [execInterpretRead, if_pos hlen, interpretReadOn_sentinel _ _ h]
  rfl

/-- On any other block `verify` decides, and a block that does not match yields no data (R126). -/
theorem exec_interpretRead_checked {block : List Byte} (hlen : block.length = 132) (h : eodOf block = false)
    (s : State) :
    exec (.interpretRead block) s =
      .next { s with
        eodF := false, acc := sum8 (covered block), matchF := closed block
        ret := .block (if closed block then some (payloadOf block) else none) } := by
  change execInterpretRead block s = _
  simp only [execInterpretRead, if_pos hlen, interpretReadOn_checked _ _ h]
  rfl

/-- A read-data block given as a frame is interpreted as the interpreter's own operand is (log 13). -/
theorem decodeBlock_eq_interpretRead {block : List Byte} (hlen : block.length = 132) (s : State) :
    decodeBlock block s = exec (.interpretRead block) s := by
  change _ = execInterpretRead block s
  simp only [decodeBlock, execInterpretRead, if_pos hlen]

/-- Settles O25: the acknowledgement is the comparison with 06. -/
theorem interpretAckIsTrueForSixOnly : Obligations.InterpretAckIsTrueForSixOnly := by
  intro r s
  refine ⟨r == 0x06, ?_, exec_interpretAck r s⟩
  rw [beq_iff_eq, ← BitVec.toNat_inj]
  rfl

/-- Settles O26: the sentinel decides first, then whether the block is closed. -/
theorem interpretReadTestsInOrder : Obligations.InterpretReadTestsInOrder := by
  intro block s hlen
  have hclosed := closed_of_length (n := 131) hlen
  have hcovered := covered_of_length (n := 131) hlen
  have hchecked : block[1]? ≠ some 0xFF → eodOf block = false := fun h =>
    Bool.eq_false_iff.mpr fun he => h ((eodOf_eq_true_iff block).mp he)
  refine ⟨fun h => ?_, fun h hsum => ?_, fun h hsum => ?_⟩
  · exact exec_interpretRead_sentinel hlen ((eodOf_eq_true_iff block).mpr h) s
  · have hopen : closed block = false := hclosed.trans (beq_false_of_ne hsum)
    rw [exec_interpretRead_checked hlen (hchecked h), hopen, hcovered]
    rfl
  · have hmatch : closed block = true := hclosed.trans (beq_iff_eq.mpr hsum)
    refine ⟨payloadOf block, payloadOf_length hlen, fun i hi => payloadOf_getElem? block hi, ?_⟩
    rw [exec_interpretRead_checked hlen (hchecked h), hmatch, hcovered]
    rfl

/-- Settles O27: the length is tested before the block is looked at. -/
theorem interpretReadNeedsAWholeBlock : Obligations.InterpretReadNeedsAWholeBlock :=
  fun _ _ hlen => if_neg hlen

/-- Settles O43: each response frame is its bytes given to the interpreter of its format. -/
theorem responseFramesAreInterpreted : Obligations.ResponseFramesAreInterpreted := by
  refine ⟨fun s => exec_interpretAck 0x06 s, fun r s hr => ?_, fun e0 e2 ck pay s hp => ?_,
    fun e0 fl e2 ck pay s hp hfl => ?_⟩
  · have h := exec_interpretAck r s
    rwa [beq_false_of_ne hr] at h
  · have hlen : (dataFrameBytes e0 0xFF e2 pay ck).length = 132 := by rw [dataFrameBytes_length, hp]
    exact (decodeBlock_eq_interpretRead hlen s).trans (exec_interpretRead_sentinel hlen rfl s)
  · have hlen : (dataFrameBytes e0 fl e2 pay ck).length = 132 := by rw [dataFrameBytes_length, hp]
    have heod : eodOf (dataFrameBytes e0 fl e2 pay ck) = false := by simpa [eodOf, dataFrameBytes] using hfl
    have hsplit : dataFrameBytes e0 fl e2 pay ck = (e0 :: fl :: e2 :: pay) ++ [ck] := rfl
    have hsum : sum8 (e0 :: fl :: e2 :: pay) = e0 + fl + e2 + sum8 pay := by simp [BitVec.add_assoc]
    refine ⟨ck == sum8 (e0 :: fl :: e2 :: pay), ?_, ?_⟩
    · rw [beq_sum8_iff]
      simp [Nat.add_assoc]
    · refine ((decodeBlock_eq_interpretRead hlen s).trans (exec_interpretRead_checked hlen heod s)).trans ?_
      rw [payloadOf_dataFrameBytes e0 fl e2 ck hp, hsplit, covered_concat, closed_concat, hsum]

end Sys2Proof.Machine
end

section
/-! PROOFS. The statements of 41_frame_builder: what each builder on its own leaves (R100 to R104). -/

namespace Sys2Proof.Machine

/-! ### What a builder on its own answers -/

/-- The state a builder on its own leaves: the latches it writes, its frame in TXBUF, BUILD passed (R22, R25; log 9). -/
def State.built (s : State) (k : Kind) (acc : Byte) (o : Offset) (c : Fin 129) (frame : List Byte) : State :=
  { s with
    acc := acc, kind := k, ofs := o, clen := c, txbuf := Memory.ofBytes frame, txlen := frame.length
    trail := [.build, .idle], ret := .bytes frame }

/-- A builder begins and ends in IDLE, so PHASE is as it was. -/
theorem built_of_idle {s : State} (h : s.phase = .idle) (k : Kind) (acc : Byte) (o : Offset) (c : Fin 129)
    (frame : List Byte) :
    (((({ s.begin.enter .build with acc := acc, kind := k, ofs := o, clen := c } : State).loadTx frame).enter
      .idle).yielding (.bytes frame)) = s.built k acc o c frame := by
  rw [State.built, h]
  rfl

theorem exec_buildErase_idle {s : State} (h : s.phase = .idle) :
    exec .buildErase s = .next (s.built .erase 0x8E s.ofs s.clen eraseFrame) := by
  rw [← built_of_idle h]
  exact execBuildErase_idle s h

theorem exec_buildReadChunk_idle (o : Offset) {s : State} (h : s.phase = .idle) :
    exec (.buildReadChunk o) s =
      .next (s.built .read (0x52 + offsetHi o + offsetLo o) o s.clen
        (readFrameBytes o (0x52 + offsetHi o + offsetLo o))) := by
  rw [← built_of_idle h]
  exact execBuildReadChunk_idle o s h

theorem exec_buildWriteChunk_idle (o : Offset) {fw : List Byte} {s : State} (h : s.phase = .idle)
    (hl : o.toNat ≤ fw.length) :
    exec (.buildWriteChunk o fw) s =
      .next (s.built .write (writeSum o (paddedChunk o fw)) o ⟨chunkLength o fw.length, chunkLength_lt o fw.length⟩
        (writeFrameBytes o (paddedChunk o fw) (writeSum o (paddedChunk o fw)))) := by
  rw [← built_of_idle h]
  exact buildAlone_ok _ _ _ _ h (buildWriteOn_ok o fw _ hl)

/-- Past the image's end the fault is taken with nothing built (R102, R144; log 18). -/
theorem exec_buildWriteChunk_outOfRange (o : Offset) {fw : List Byte} {s : State} (h : s.phase = .idle)
    (hl : fw.length < o.toNat) :
    exec (.buildWriteChunk o fw) s =
      .next (({ s with trail := [.build] } : State).takeFault (.indexOutOfRange o fw.length)) :=
  (buildAlone_raised _ _ (s.begin.enter .build) _ h (buildWriteOn_raised o fw _ hl)).trans rfl

/-- TXBUF holds the built frame (R25). -/
theorem txFrame_built (s : State) (k : Kind) (acc : Byte) (o : Offset) (c : Fin 129) (frame : List Byte) :
    (s.built k acc o c frame).txFrame = some frame := Memory.readBytes_ofBytes frame

/-- A fresh buffer holds no byte above the frame put into it (R25; log 6). -/
theorem Memory.read_ofBytes_above (bs : List Byte) {a : Nat} (h : bs.length ≤ a) : (Memory.ofBytes bs).read a = none := by
  rw [Memory.read_ofBytes, List.getElem?_eq_none h]

/-! ### The bytes of a write frame -/

theorem offsetHi_eq_ofNat (o : Offset) : offsetHi o = BitVec.ofNat 8 (o.toNat / 256) := by
  rw [← offsetHi_toNat, BitVec.ofNat_toNat, BitVec.setWidth_eq]

theorem offsetLo_eq_ofNat (o : Offset) : offsetLo o = BitVec.ofNat 8 (o.toNat % 256) := by
  rw [← offsetLo_toNat, BitVec.ofNat_toNat, BitVec.setWidth_eq]

/-- The payload stands at index 3 of the frame (R63). -/
theorem writeFrameBytes_getElem?_payload (o : Offset) {p : List Byte} (ck : Byte) {i : Nat} (hi : i < p.length) :
    (writeFrameBytes o p ck)[3 + i]? = p[i]? := by
  rw [Nat.add_comm 3 i]
  simp [writeFrameBytes, List.getElem?_append_left hi]

/-- The first bytes of the payload are the image's, from the offset upward (R67). -/
theorem paddedChunk_getElem?_chunk (o : Offset) (fw : List Byte) {i : Nat} (hi : i < chunkLength o fw.length) :
    (paddedChunk o fw)[i]? = fw[o.toNat + i]? := by
  have hchunk : i < (chunkBytes o fw).length := by rwa [chunkBytes_length]
  rw [paddedChunk, List.getElem?_append_left hchunk, chunkBytes, List.getElem?_take_of_lt hi, List.getElem?_drop]

/-- The rest of the payload is zero (R67). -/
theorem paddedChunk_getElem?_padding (o : Offset) (fw : List Byte) {i : Nat} (hle : chunkLength o fw.length ≤ i)
    (hi : i < 128) : (paddedChunk o fw)[i]? = some 0 := by
  have hchunk : (chunkBytes o fw).length ≤ i := by rwa [chunkBytes_length]
  rw [paddedChunk, List.getElem?_append_right hchunk, chunkBytes_length, zeros, List.getElem?_replicate, if_pos (by omega)]

/-- The checksum of a write frame covers its first 131 bytes (R65). -/
theorem writeSum_eq_sum8_take (o : Offset) {p : List Byte} (ck : Byte) (hp : p.length = 128) :
    writeSum o p = sum8 ((writeFrameBytes o p ck).take 131) := by
  have hlen : (writeFrameBytes o p ck).length = 131 + 1 := by rw [writeFrameBytes_length, hp]
  rw [← covered_of_length hlen]
  exact congrArg sum8 (covered_concat (Config.opWrite :: offsetHi o :: offsetLo o :: p) ck).symm

/-! ### The statements -/

/-- Settles O15: the builder's constant frame, read back from the fresh buffer. -/
theorem buildEraseIsTheConstantFrame : Obligations.BuildEraseIsTheConstantFrame := by
  intro s h
  exact ⟨_, exec_buildErase_idle h, rfl, txFrame_built _ _ _ _ _ _, fun a ha => Memory.read_ofBytes_above eraseFrame ha,
    rfl⟩

/-- Settles O16: within the image the frame is `writeFrameBytes` of the padded chunk; past it the builder raises. -/
theorem buildWriteChunkLaysOutTheFrame : Obligations.BuildWriteChunkLaysOutTheFrame := by
  intro o fw s h
  refine ⟨fun hl => ?_, fun hl => ⟨_, exec_buildWriteChunk_outOfRange o h hl, rfl, ?_⟩⟩
  · have hp := paddedChunk_length o fw
    have hsum := writeSum_eq_sum8_take o (writeSum o (paddedChunk o fw)) hp
    have hlen : (writeFrameBytes o (paddedChunk o fw) (writeSum o (paddedChunk o fw))).length = 132 := by
      rw [writeFrameBytes_length, hp]
    refine ⟨_, _, exec_buildWriteChunk_idle o h hl, rfl, txFrame_built _ _ _ _ _ _, hlen, rfl,
      congrArg some (offsetHi_eq_ofNat o), congrArg some (offsetLo_eq_ofNat o), rfl, fun i hi => ?_, fun i hle hi => ?_, ?_, ?_⟩
    · have hi : i < chunkLength o fw.length := hi
      have hle := chunkLength_le o fw.length
      rw [writeFrameBytes_getElem?_payload o _ (by omega), paddedChunk_getElem?_chunk o fw hi]
    · rw [writeFrameBytes_getElem?_payload o _ (by omega), paddedChunk_getElem?_padding o fw hle hi]
    · have hclosed := closed_writeFrameBytes o (paddedChunk o fw) (writeSum o (paddedChunk o fw))
      rw [closed_of_length (n := 131) hlen, beq_self_eq_true] at hclosed
      exact beq_iff_eq.mp hclosed
    · rw [← hsum, State.built, hlen]
  · rw [h]
    rfl

/-- Settles O17: the three fields and their sum, read back from the fresh buffer. -/
theorem buildReadChunkLaysOutTheFrame : Obligations.BuildReadChunkLaysOutTheFrame := by
  intro o s h
  refine ⟨_, offsetHi o, offsetLo o, 0x52 + offsetHi o + offsetLo o, exec_buildReadChunk_idle o h, offsetHi_toNat o,
    offsetLo_toNat o, ?_, rfl, txFrame_built _ _ _ _ _ _, fun a ha => Memory.read_ofBytes_above (readFrameBytes o _) ha, rfl⟩
  simp [BitVec.toNat_add]

end Sys2Proof.Machine
end

section
/-! PROOFS. The statements of 42_transport: open, write_all, read_exact, close and exchange on their own (R111 to R119). -/

namespace Sys2Proof.Machine

/-! ### What each operation answers -/

section Session

variable {s : State} {h : Handle} {p : PortName} {f : List Byte} {n : Nat}

theorem exec_openPort_ok (hp : s.phase = .idle) (hc : s.portst = .closed) (ho : s.env.openAnswer = true) :
    exec (.openPort p) s =
      .next { s with
        portst := .opened, settings := Config.serial, env := s.env.afterOpen, phase := .sending
        trail := [.opening, .sending], ret := .handle .current } := by
  change execOpenPort p s = _
  rw [execOpenPort, if_pos ⟨hp, hc⟩, openOn_ok _ (s.begin.enter .opening) ho]
  rfl

theorem exec_openPort_failed (hp : s.phase = .idle) (hc : s.portst = .closed) (ho : s.env.openAnswer = false) :
    exec (.openPort p) s =
      .next (({ s with env := s.env.afterOpen, trail := [.opening] } : State).takeFault (.openFailed (some p))) := by
  change execOpenPort p s = _
  rw [execOpenPort, if_pos ⟨hp, hc⟩, openOn_raised _ (s.begin.enter .opening) ho]
  rfl

theorem exec_writeAll_ok (hr : isRequest f = true) (hc : s.portst = .opened) (hp : s.phase = .sending)
    (hw : s.env.writeAnswer = .complete) :
    exec (.writeAll h f) s =
      .next { s with
        txs := s.txs ++ f, env := s.env.afterWrite, phase := .receiving, trail := s.trail ++ [.receiving]
        ret := .nothing } := by
  change execWriteAll h f s = _
  rw [execWriteAll, if_pos hr, if_pos hc, if_pos hp, writeAllOn_ok _ _ hw]
  rfl

theorem exec_writeAll_broken {k : Nat} (hr : isRequest f = true) (hc : s.portst = .opened) (hp : s.phase = .sending)
    (hw : s.env.writeAnswer = .broken k) :
    exec (.writeAll h f) s =
      .next (({ s with
        txs := s.txs ++ f.take (sentBound k f.length), env := s.env.afterWrite } : State).takeFault .writeFailed) := by
  change execWriteAll h f s = _
  rw [execWriteAll, if_pos hr, if_pos hc, if_pos hp, writeAllOn_raised _ _ _ hw]
  rfl

theorem exec_readExact_ok (hn : n = 1 ∨ n = 132) (hc : s.portst = .opened) (hp : s.phase = .receiving)
    (hr : n ≤ s.env.arrival.length) :
    exec (.readExact h n) s =
      .next { s with
        rxlen := n, rxbuf := Memory.ofBytes (s.env.arrival.take n), rxs := s.rxs ++ s.env.arrival.take n
        env := s.env.afterRead, phase := .decoding, trail := s.trail ++ [.decoding]
        ret := .bytes (s.env.arrival.take n) } := by
  have hlen : (s.env.arrival.take n).length = n := List.length_take_of_le hr
  change execReadExact h n s = _
  rw [execReadExact, if_pos ((responseLengthOk_iff n).mpr hn), if_pos hc, if_pos hp, readExactOn_ok _ _ hr, Flow.settle,
    State.loadRx, hlen]
  rfl

theorem exec_readExact_timeout (hn : n = 1 ∨ n = 132) (hc : s.portst = .opened) (hp : s.phase = .receiving)
    (hr : s.env.arrival.length < n) :
    exec (.readExact h n) s =
      .next (({ s with rxbuf := [], env := s.env.afterRead } : State).takeFault (.readTimeout n)) := by
  change execReadExact h n s = _
  rw [execReadExact, if_pos ((responseLengthOk_iff n).mpr hn), if_pos hc, if_pos hp, readExactOn_raised _ _ hr]
  rfl

theorem exec_closePort (h : Handle) (s : State) :
    exec (.closePort h) s =
      .next { s with
        portst := .closed, phase := .idle, ret := .nothing
        trail := if s.phase = .idle then s.trail else s.trail ++ [.idle] } := by
  change execClosePort h s = _
  by_cases hp : s.phase = .idle
  · rw [execClosePort, State.reachIdle, if_pos hp, State.closeHandle_phase, if_pos hp]
    simp only [State.yielding, State.closeHandle, hp]
  · rw [execClosePort, State.reachIdle, if_neg hp, State.closeHandle_phase, if_neg hp]
    rfl

/-- An exchange of a request with its own response length, from IDLE, is `exchangeOn` to its end (R119). -/
theorem exec_exchange_idle (hp : s.phase = .idle) (hr : isRequest f = true) (hn : n = awaited f) :
    exec (.exchange p f n) s =
      .next ((exchangeOn (some p) f n s.begin).settle fun r s1 => (s1.enter .idle).yielding (.bytes r)) := by
  change execExchange p f n s = _
  rw [execExchange, if_pos hp, if_pos hr, if_pos hn]

theorem exec_exchange_ok (hp : s.phase = .idle) (hr : isRequest f = true) (hn : n = awaited f) (hd : s.env.delivers)
    (ha : n ≤ s.env.reply.length) :
    exec (.exchange p f n) s =
      .next { s with
        settings := Config.serial, env := s.env.afterExchange, portst := .closed, rxlen := n
        rxbuf := Memory.ofBytes (s.env.reply.take n), rxs := s.rxs ++ s.env.reply.take n, txs := s.txs ++ f
        trail := [.opening, .sending, .receiving, .idle], ret := .bytes (s.env.reply.take n) } := by
  have hlen : (s.begin.env.afterOpen.afterWrite.arrival.take n).length = n := List.length_take_of_le ha
  rw [exec_exchange_idle hp hr hn, exchangeOn_ok _ _ _ s.begin hd.1 hd.2 ha, State.loadRx, hlen, hp]
  rfl

theorem exec_exchange_openFailed (hp : s.phase = .idle) (hr : isRequest f = true) (hn : n = awaited f)
    (ho : s.env.openAnswer = false) :
    exec (.exchange p f n) s =
      .next (({ s with env := s.env.afterOpen, trail := [.opening] } : State).takeFault (.openFailed (some p))) := by
  rw [exec_exchange_idle hp hr hn, exchangeOn_openFailed _ _ _ s.begin ho]
  rfl

theorem exec_exchange_broken {k : Nat} (hp : s.phase = .idle) (hr : isRequest f = true) (hn : n = awaited f)
    (ho : s.env.openAnswer = true) (hw : s.env.afterOpen.writeAnswer = .broken k) :
    exec (.exchange p f n) s =
      .next (({ s with
        env := s.env.afterOpen.afterWrite, settings := Config.serial, txs := s.txs ++ f.take (sentBound k f.length)
        trail := [.opening, .sending] } : State).takeFault .writeFailed) := by
  rw [exec_exchange_idle hp hr hn, exchangeOn_writeFailed _ _ _ k s.begin ho hw]
  rfl

theorem exec_exchange_timeout (hp : s.phase = .idle) (hr : isRequest f = true) (hn : n = awaited f)
    (hd : s.env.delivers) (ha : s.env.reply.length < n) :
    exec (.exchange p f n) s =
      .next (({ s with
        env := s.env.afterExchange, settings := Config.serial, txs := s.txs ++ f, rxbuf := []
        trail := [.opening, .sending, .receiving] } : State).takeFault (.readTimeout n)) := by
  rw [exec_exchange_idle hp hr hn, exchangeOn_timeout _ _ _ s.begin hd.1 hd.2 ha]
  rfl

end Session

/-- A request of the block has at least one byte. -/
theorem isRequest_length_pos {f : List Byte} (h : isRequest f = true) : 0 < f.length := by
  rcases (requestLengthOk_iff _).mp (isRequest_length h) with h | h | h <;> omega

theorem awaited_eq (f : List Byte) : awaited f = 1 ∨ awaited f = 132 :=
  (responseLengthOk_iff _).mp (responseLengthOk_awaited f)

/-! ### The statements -/

/-- Settles O19: the draw decides between the handle and OPEN_FAILED. -/
theorem openFollowsTheDraw : Obligations.OpenFollowsTheDraw := by
  intro p s hp hc
  refine ⟨fun ho => ⟨_, exec_openPort_ok hp hc ho, rfl, rfl, rfl, rfl⟩,
    fun ho => ⟨_, exec_openPort_failed hp hc ho, rfl, ?_⟩⟩
  rw [hp, hc]
  rfl

/-- Settles O20: a broken write has sent the free number of bytes reduced below the frame's length. -/
theorem writeAllIsAllOrFault : Obligations.WriteAllIsAllOrFault := by
  intro h f s hr hc hp
  exact ⟨fun hw => ⟨_, exec_writeAll_ok hr hc hp hw, rfl, rfl⟩,
    fun k hw => ⟨_, sentBound k f.length, exec_writeAll_broken hr hc hp hw, sentBound_lt k _ (isRequest_length_pos hr),
      rfl, rfl, rfl⟩⟩

/-- Settles O21: the first `n` bytes are loaded into a fresh RXBUF, or RXBUF is emptied. -/
theorem readExactIsExactOrFault : Obligations.ReadExactIsExactOrFault := by
  intro h n s hn hc hp
  refine ⟨fun hr => ?_, fun hr => ⟨_, exec_readExact_timeout hn hc hp hr, rfl, fun _ => rfl, rfl⟩⟩
  have hlen : (s.env.arrival.take n).length = n := List.length_take_of_le hr
  exact ⟨_, exec_readExact_ok hn hc hp hr, rfl, Memory.readBytes_ofBytes_of_length _ hlen,
    fun a ha => Memory.read_ofBytes_above _ (hlen.trans_le ha), rfl, rfl, rfl⟩

/-- Settles O22: close runs in every state. -/
theorem closeReleasesThePort : Obligations.CloseReleasesThePort :=
  fun h s => ⟨_, exec_closePort h s, rfl, rfl, rfl⟩

/-- Settles O23: one clause for each way an exchange can end. -/
theorem exchangeIsOneRoundTrip : Obligations.ExchangeIsOneRoundTrip := by
  intro p f n s hr hn hp
  refine ⟨hn ▸ awaited_eq f, fun hd ha => ?_, fun ho => ⟨_, exec_exchange_openFailed hp hr hn ho, rfl, rfl, rfl, rfl⟩,
    fun k ho hw => ?_, fun hd ha => ⟨_, exec_exchange_timeout hp hr hn hd ha, rfl, rfl, fun _ => rfl, rfl, rfl⟩⟩
  · exact ⟨_, exec_exchange_ok hp hr hn hd ha, rfl, rfl, rfl,
      Memory.readBytes_ofBytes_of_length _ (List.length_take_of_le ha), rfl, rfl, rfl⟩
  · exact ⟨_, sentBound k f.length, exec_exchange_broken hp hr hn ho hw, rfl, sentBound_lt k _ (isRequest_length_pos hr),
      rfl, rfl, rfl⟩

/-- Settles O24: each test in the order in which the operation makes it. -/
theorem transportOperandsOutsideTheDomainAreRefused : Obligations.TransportOperandsOutsideTheDomainAreRefused := by
  intro h p f n s
  have hclosed : s.portst = .closed → s.portst ≠ .opened := fun hc hc' => by rw [hc] at hc'; cases hc'
  have hlength : n = 1 ∨ n = 132 → responseLengthOk n = true := (responseLengthOk_iff n).mpr
  refine ⟨fun hr hc => ?_, fun hn hc => ?_, fun hr hc hp => ?_, fun hn hc hp => ?_, fun hr => ?_, fun hp hr => ?_,
    fun h1 h132 => ?_, fun hp hr hn => ?_⟩
  · exact (if_pos hr).trans (if_neg (hclosed hc))
  · exact (if_pos (hlength hn)).trans (if_neg (hclosed hc))
  · exact (if_pos hr).trans ((if_pos hc).trans (if_neg hp))
  · exact (if_pos (hlength hn)).trans ((if_pos hc).trans (if_neg hp))
  · exact if_neg (Bool.not_eq_true _ ▸ hr)
  · exact (if_pos hp).trans (if_neg (Bool.not_eq_true _ ▸ hr))
  · exact if_neg fun hn => ((responseLengthOk_iff n).mp hn).elim h1 h132
  · exact (if_pos hp).trans ((if_pos hr).trans (if_neg hn))

end Sys2Proof.Machine
end

section
/-! PROOFS. How a call ends, by its kind and the environment's answers (44_commands R130 to R133, 60_exceptions R151). -/

namespace Sys2Proof.Machine

/-! ### What `interpret_read` makes of a whole block -/

/-- The value of `interpret_read` on a block of 132 bytes (R126). -/
def blockValue (block : List Byte) : Option (List Byte) :=
  if block[1]? = some 0xFF then none
  else if block[131]? = some (sum8 (block.take 131)) then some ((block.drop 3).take 128) else none

/-- A block of 132 bytes at the head of what arrives has the value of its own bytes. -/
theorem blockValue_take (bs : List Byte) :
    blockValue (bs.take 132) =
      if bs[1]? = some 0xFF then none
      else if bs[131]? = some (sum8 (bs.take 131)) then some ((bs.drop 3).take 128) else none := by
  have hpayload : ((bs.take 132).drop 3).take 128 = (bs.drop 3).take 128 := by
    rw [List.drop_take, List.take_take]; rfl
  have hbody : (bs.take 132).take 131 = bs.take 131 := by rw [List.take_take]; rfl
  rw [blockValue, List.getElem?_take_of_lt (by decide), List.getElem?_take_of_lt (by decide), hbody, hpayload]

theorem interpretReadOn_of_length {block : List Byte} (hlen : block.length = 132) (s : State) :
    interpretReadOn block s =
      (blockValue block,
        { s with
          eodF := block[1]? == some 0xFF
          acc := if block[1]? = some 0xFF then s.acc else sum8 (block.take 131)
          matchF := if block[1]? = some 0xFF then s.matchF else block[131]? == some (sum8 (block.take 131)) }) := by
  by_cases h : block[1]? = some 0xFF
  · rw [interpretReadOn_sentinel _ _ ((eodOf_eq_true_iff block).mpr h)]
    simp only [blockValue, h, if_true, beq_self_eq_true]
  · have he : eodOf block = false := Bool.eq_false_iff.mpr fun he => h ((eodOf_eq_true_iff block).mp he)
    rw [interpretReadOn_checked _ _ he, closed_of_length (n := 131) hlen, covered_of_length (n := 131) hlen]
    simp only [blockValue, h, if_false, beq_iff_eq, payloadOf, beq_false_of_ne h]

/-! ### A round trip from a loaded frame -/

section Loaded

variable {port : Option PortName} {k : Kind} {acc : Byte} {o : Offset} {c : Fin 129} {f : List Byte} {s : State}

/-- An acknowledged call: an erase or a write whose first byte `r` arrives (R125, R130, R131). -/
theorem roundTrip_loaded_ack {r : Byte} {rest : List Byte} (hk : k ≠ .read) (hd : s.env.delivers)
    (hr : s.env.reply = r :: rest) :
    roundTrip port k f (s.loaded k acc o c f) =
      { s with
        acc := acc, ofs := o, clen := c, kind := k, txbuf := [], txlen := f.length, rxbuf := [], rxlen := 1
        ackF := r == 0x06, portst := .closed, phase := .idle, result := some (.ack (r == 0x06))
        settings := Config.serial, txs := s.txs ++ f, rxs := s.rxs ++ [r], env := s.env.afterExchange
        ret := .result (.ack (r == 0x06)), trail := [.build, .opening, .sending, .receiving, .decoding, .idle] } := by
  obtain ⟨hrx, hphase⟩ : k.rxLen = 1 ∧ ∀ u, decodingPhase k [r] u = ackPhase [r] u := by
    cases k with
    | erase => exact ⟨rfl, fun _ => rfl⟩
    | write => exact ⟨rfl, fun _ => rfl⟩
    | read => exact absurd rfl hk
  have harrival : s.env.afterOpen.afterWrite.arrival = r :: rest := hr
  rw [roundTrip_ok port k f (s.loaded k acc o c f) s.env rfl hd.1 hd.2 (by rw [hrx, harrival]; simp), hrx, harrival,
    List.take_succ_cons, List.take_zero, hphase, ackPhase_eq, ackOf_cons]
  rfl

/-- A read whose whole block arrives (R126, R132). -/
theorem roundTrip_loaded_data {block rest : List Byte} (hd : s.env.delivers) (hr : s.env.reply = block ++ rest)
    (hlen : block.length = 132) :
    roundTrip port .read f (s.loaded .read acc o c f) =
      { s with
        acc := if block[1]? = some 0xFF then acc else sum8 (block.take 131)
        matchF := if block[1]? = some 0xFF then s.matchF else block[131]? == some (sum8 (block.take 131))
        eodF := block[1]? == some 0xFF
        ofs := o, clen := c, kind := .read, txbuf := [], txlen := f.length, rxbuf := [], rxlen := 132
        portst := .closed, phase := .idle, result := some (.data (blockValue block))
        settings := Config.serial, txs := s.txs ++ f, rxs := s.rxs ++ block, env := s.env.afterExchange
        ret := .result (.data (blockValue block))
        trail := [.build, .opening, .sending, .receiving, .decoding, .idle] } := by
  have harrival : s.env.afterOpen.afterWrite.arrival = block ++ rest := hr
  have htake : (block ++ rest).take Kind.read.rxLen = block := List.take_left' hlen
  rw [roundTrip_ok port .read f (s.loaded .read acc o c f) s.env rfl hd.1 hd.2
      (by rw [harrival, List.length_append, hlen]; exact Nat.le_add_right _ _), harrival, htake]
  change State.dropFrames (dataPhase _ _) = _
  rw [dataPhase, interpretReadOn_of_length hlen, State.loadRx, hlen]
  rfl

end Loaded

/-- The kind of a call's result: a fault, an acknowledgement, or data that is a whole payload (R24, R133). -/
theorem roundTrip_result_of_kind (port : Option PortName) (k : Kind) (frame : List Byte) (s : State) :
    ∃ v, (roundTrip port k frame s).result = some v ∧ (roundTrip port k frame s).ret = .result v ∧
      ((∃ f, v = .fault f) ∨ (k ≠ .read ∧ ∃ b, v = .ack b) ∨
        (k = .read ∧ ∃ d, v = .data d ∧ ∀ p, d = some p → p.length = 128)) := by
  rcases Env.exchange_cases s.env k.rxLen with ho | ⟨ho, j, hw⟩ | ⟨ho, hw, hr⟩ | ⟨ho, hw, hr⟩
  · rw [roundTrip_openFailed _ _ _ _ _ rfl ho]; exact ⟨_, rfl, rfl, .inl ⟨_, rfl⟩⟩
  · rw [roundTrip_writeFailed _ _ _ j _ _ rfl ho hw]; exact ⟨_, rfl, rfl, .inl ⟨_, rfl⟩⟩
  · rw [roundTrip_timeout _ _ _ _ _ rfl ho hw hr]; exact ⟨_, rfl, rfl, .inl ⟨_, rfl⟩⟩
  · rw [roundTrip_ok _ _ _ _ _ rfl ho hw hr]
    cases k with
    | erase => exact ⟨_, rfl, rfl, .inr (.inl ⟨by decide, _, rfl⟩)⟩
    | write => exact ⟨_, rfl, rfl, .inr (.inl ⟨by decide, _, rfl⟩)⟩
    | read =>
      exact ⟨_, rfl, rfl, .inr (.inr ⟨rfl, _, rfl, fun p => interpretReadOn_length _ p _ (List.length_take_of_le hr)⟩)⟩

/-! ### Two runs of one round trip -/

/-- What one call shows outside is what another shows: equal results, draws and phases, and the same bytes sent and
consumed (R135). -/
def SameCall (s s' t t' : State) : Prop :=
  t.result = t'.result ∧ t.env = t'.env ∧ t.trail = t'.trail ∧
    ∃ sent got, t.txs = s.txs ++ sent ∧ t'.txs = s'.txs ++ sent ∧ t.rxs = s.rxs ++ got ∧ t'.rxs = s'.rxs ++ got

/-- The result of the decoding phase is the response's alone. -/
theorem decodingPhase_result_eq (k : Kind) (r : List Byte) (s s' : State) :
    (decodingPhase k r s).result = (decodingPhase k r s').result := by
  cases k with
  | erase => rfl
  | write => rfl
  | read =>
    cases he : eodOf r with
    | true => simp only [decodingPhase, dataPhase_sentinel _ _ he, State.finish_result]
    | false => simp only [decodingPhase, dataPhase_checked _ _ he, State.finish_result]

/-- A round trip depends on its kind, its frame and the environment's answers alone; the port's name shows only in
OPEN_FAILED, which records it (R135, R140). -/
theorem roundTrip_sameCall {port port' : Option PortName} {s s' : State} (k : Kind) (frame : List Byte)
    (he : s.env = s'.env) (ht : s.trail = s'.trail) (hp : s.env.openAnswer = true ∨ port = port') :
    SameCall s s' (roundTrip port k frame s) (roundTrip port' k frame s') := by
  rcases Env.exchange_cases s.env k.rxLen with ho | ⟨ho, j, hw⟩ | ⟨ho, hw, hr⟩ | ⟨ho, hw, hr⟩
  · obtain rfl : port = port' := hp.resolve_left (by simp [ho])
    rw [roundTrip_openFailed _ _ _ s _ rfl ho, roundTrip_openFailed _ _ _ s' _ he.symm ho]
    exact ⟨rfl, rfl, by simp [ht], [], [], by simp⟩
  · rw [roundTrip_writeFailed _ _ _ j s _ rfl ho hw, roundTrip_writeFailed _ _ _ j s' _ he.symm ho hw]
    exact ⟨rfl, rfl, by simp [ht], _, [], rfl, rfl, by simp⟩
  · rw [roundTrip_timeout _ _ _ s _ rfl ho hw hr, roundTrip_timeout _ _ _ s' _ he.symm ho hw hr]
    exact ⟨rfl, by simp [State.exchanged, he], by simp [State.exchanged, ht], frame, [], rfl, rfl, by simp [State.exchanged]⟩
  · rw [roundTrip_ok _ _ _ s _ rfl ho hw hr, roundTrip_ok _ _ _ s' _ he.symm ho hw hr]
    refine ⟨decodingPhase_result_eq _ _ _ _, ?_⟩
    obtain ⟨h, -⟩ := decodingPhase_frame k (s.env.afterOpen.afterWrite.arrival.take k.rxLen)
      ((s.exchanged frame).loadRx (s.env.afterOpen.afterWrite.arrival.take k.rxLen)).closeHandle
    obtain ⟨h', -⟩ := decodingPhase_frame k (s.env.afterOpen.afterWrite.arrival.take k.rxLen)
      ((s'.exchanged frame).loadRx (s.env.afterOpen.afterWrite.arrival.take k.rxLen)).closeHandle
    rw [h, h']
    exact ⟨by simp [State.exchanged, he], by simp [State.exchanged, ht], frame, _, rfl, rfl, rfl, rfl⟩

/-! ### What each call runs from IDLE -/

/-- The kind of a call (30_encoding R71, 44_commands R130 to R132); no other instruction makes one. -/
def callKind : Instr → Kind
  | .frameWrite _ _ _ | .writeChunk _ _ _ => .write
  | .frameRead _ _ | .readChunk _ _ => .read
  | _ => .erase

/-- The port that a command names; a request frame names none (log 12). -/
def callPort : Instr → Option PortName
  | .erase p | .writeChunk p _ _ | .readChunk p _ => some p
  | _ => none

section FromIdle

variable {s : State} (h : s.phase = .idle)
include h

theorem exec_erase_idle (p : PortName) :
    exec (.erase p) s =
      .next (roundTrip (some p) .erase eraseFrame (s.loaded .erase 0x8E s.ofs s.clen eraseFrame)) :=
  execErase_idle p s h

theorem exec_readChunk_idle (p : PortName) (o : Offset) :
    exec (.readChunk p o) s =
      .next (roundTrip (some p) .read (readFrameBytes o (0x52 + offsetHi o + offsetLo o))
        (s.loaded .read (0x52 + offsetHi o + offsetLo o) o s.clen (readFrameBytes o (0x52 + offsetHi o + offsetLo o)))) :=
  execReadChunk_idle p o s h

theorem exec_writeChunk_idle (p : PortName) (o : Offset) {fw : List Byte} (hl : o.toNat ≤ fw.length) :
    exec (.writeChunk p o fw) s =
      .next (roundTrip (some p) .write (writeFrameBytes o (paddedChunk o fw) (writeSum o (paddedChunk o fw)))
        (s.loaded .write (writeSum o (paddedChunk o fw)) o ⟨chunkLength o fw.length, chunkLength_lt o fw.length⟩
          (writeFrameBytes o (paddedChunk o fw) (writeSum o (paddedChunk o fw))))) :=
  execWriteChunk_idle p o fw s h hl

/-- Past the image's end a write ends in BUILD: KIND is written and the frames of an earlier call are gone (R131, R144). -/
theorem exec_writeChunk_outOfRange (p : PortName) (o : Offset) {fw : List Byte} (hl : fw.length < o.toNat) :
    exec (.writeChunk p o fw) s =
      .next (({ s with kind := .write, txbuf := [], rxbuf := [], trail := [.build] } : State).takeFault
        (.indexOutOfRange o fw.length)) := by
  change execWriteChunk p o fw s = _
  rw [execWriteChunk_outOfRange p o fw s h hl, State.takeFault, State.takeFault]
  rfl

theorem exec_frameErase_idle (ck : EraseChecksum) :
    exec (.frameErase ck) s =
      .next (roundTrip none .erase eraseFrame (s.loaded .erase s.acc s.ofs s.clen eraseFrame)) :=
  frameCall_idle .erase eraseFrame s h

theorem exec_frameRead_idle (o : Offset) (ck : Byte) :
    exec (.frameRead o ck) s =
      .next (roundTrip none .read (readFrameBytes o ck) (s.loaded .read s.acc s.ofs s.clen (readFrameBytes o ck))) :=
  frameCall_idle .read (readFrameBytes o ck) s h

theorem exec_frameWrite_idle (o : Offset) {p : List Byte} (ck : Byte) (hp : p.length = 128) :
    exec (.frameWrite o p ck) s =
      .next (roundTrip none .write (writeFrameBytes o p ck) (s.loaded .write s.acc s.ofs s.clen (writeFrameBytes o p ck))) :=
  (if_pos hp).trans (frameCall_idle .write (writeFrameBytes o p ck) s h)

/-- From IDLE every command within the image and every request frame of its format is the round trip of its own
request. -/
theorem exec_call_idle {i : Instr} (hi : i.isCommand = true ∨ i.isRequest = true) (hwf : i.wf = true)
    (hin : ∀ p o fw, i = .writeChunk p o fw → o.toNat ≤ fw.length) :
    ∃ acc o c, exec i s =
      .next (roundTrip (callPort i) (callKind i) i.requestFrame (s.loaded (callKind i) acc o c i.requestFrame)) := by
  cases i <;> simp only [Instr.isCommand, Instr.isRequest, Bool.false_eq_true, or_self] at hi
  case erase p => exact ⟨_, _, _, exec_erase_idle h p⟩
  case readChunk p o => rw [requestFrame_readChunk]; exact ⟨_, _, _, exec_readChunk_idle h p o⟩
  case writeChunk p o fw => rw [requestFrame_writeChunk]; exact ⟨_, _, _, exec_writeChunk_idle h p o (hin p o fw rfl)⟩
  case frameErase ck => exact ⟨_, _, _, exec_frameErase_idle h ck⟩
  case frameRead o ck => exact ⟨_, _, _, exec_frameRead_idle h o ck⟩
  case frameWrite o p ck => exact ⟨_, _, _, exec_frameWrite_idle h o ck (by simpa [Instr.wf] using hwf)⟩

end FromIdle

/-- `exec_call` with the state of the fault in BUILD written out: a call answers from IDLE, by its round trip or by
INDEX_OUT_OF_RANGE. -/
theorem exec_call_next {i : Instr} {s t : State} (hi : i.isCommand = true ∨ i.isRequest = true)
    (hexec : exec i s = .next t) :
    s.phase = .idle ∧ (IsRoundTrip i s t ∨ ∃ p o fw, i = .writeChunk p o fw ∧ fw.length < o.toNat ∧
      t = ({ s with kind := .write, txbuf := [], rxbuf := [], trail := [.build] } : State).takeFault
        (.indexOutOfRange o fw.length)) := by
  obtain ⟨hp, ht | ⟨p, o, fw, rfl, hl, -⟩⟩ := exec_call i s t hi hexec
  · exact ⟨hp, .inl ht⟩
  · cases (exec_writeChunk_outOfRange hp p o hl).symm.trans hexec
    exact ⟨hp, .inr ⟨p, o, fw, rfl, hl, rfl⟩⟩

/-- A call's request has the length of its kind (R118). -/
theorem requestFrame_length {i : Instr} (hi : i.isCommand = true ∨ i.isRequest = true) (hwf : i.wf = true) :
    i.requestFrame.length = (callKind i).txLen := by
  cases i <;> simp only [Instr.isCommand, Instr.isRequest, Bool.false_eq_true, or_self] at hi
  case erase => rfl
  case frameErase => rfl
  case readChunk p o => rw [requestFrame_readChunk]; rfl
  case frameRead => rfl
  case writeChunk p o fw => rw [requestFrame_writeChunk, writeFrameBytes_length, paddedChunk_length]; rfl
  case frameWrite o p ck =>
    have hp : p.length = 128 := by simpa [Instr.wf] using hwf
    rw [Instr.requestFrame, writeFrameBytes_length, hp]; rfl

theorem wf_of_isCommand {i : Instr} (hi : i.isCommand = true) : i.wf = true := by
  cases i with
  | erase _ => rfl
  | writeChunk _ _ _ => rfl
  | readChunk _ _ => rfl
  | _ => cases hi

/-- A write begins within its image or past its end; every other instruction counts as within. -/
theorem withinImage_or_outOfRange (i : Instr) :
    (∀ p o fw, i = .writeChunk p o fw → o.toNat ≤ fw.length) ∨ ∃ p o fw, i = .writeChunk p o fw ∧ fw.length < o.toNat := by
  by_cases h : ∃ p o fw, i = .writeChunk p o fw ∧ fw.length < o.toNat
  · exact .inr h
  · exact .inl fun p o fw hi => Nat.le_of_not_lt fun hl => h ⟨p, o, fw, hi, hl⟩

end Sys2Proof.Machine
end

section
/-! PROOFS. The statements of 44_commands, and of the request frames as calls (30_encoding R71; log 12). -/

namespace Sys2Proof.Machine

/-! ### The commands -/

/-- Settles O28: the constant frame's round trip, acknowledged by its first byte. -/
theorem eraseReportsTheAcknowledgement : Obligations.EraseReportsTheAcknowledgement := by
  intro p r rest s h hd hr
  refine ⟨_, exec_erase_idle h p, ?_⟩
  rw [roundTrip_loaded_ack (by decide) hd hr]
  exact ⟨rfl, rfl, rfl, rfl, fun _ => rfl, fun _ => rfl, rfl⟩

/-- The padded chunk is at most 128 bytes of the image from the offset, and zeros up to 128 (R67). -/
theorem paddedChunk_eq (o : Offset) (fw : List Byte) :
    paddedChunk o fw = (fw.drop o.toNat).take 128 ++ List.replicate (128 - (fw.length - o.toNat)) 0 := by
  have htake : chunkBytes o fw = (fw.drop o.toNat).take 128 := by
    rw [chunkBytes, chunkLength, ← List.length_drop, ← List.take_take, List.take_length]
  have hpad : 128 - chunkLength o fw.length = 128 - (fw.length - o.toNat) := by
    rw [chunkLength, Config.chunk]; omega
  rw [paddedChunk, htake, hpad, zeros]

/-- Settles O29: the write frame's round trip, acknowledged by its first byte. -/
theorem writeChunkReportsTheAcknowledgement : Obligations.WriteChunkReportsTheAcknowledgement := by
  intro p o fw r rest s h hl hd hr
  have hp := paddedChunk_length o fw
  have hsum := writeSum_eq_sum8_take o (writeSum o (paddedChunk o fw)) hp
  have hlen : (writeFrameBytes o (paddedChunk o fw) (writeSum o (paddedChunk o fw))).length = 132 := by
    rw [writeFrameBytes_length, hp]
  refine ⟨_, writeFrameBytes o (paddedChunk o fw) (writeSum o (paddedChunk o fw)), paddedChunk o fw,
    exec_writeChunk_idle h p o hl, ?_⟩
  rw [roundTrip_loaded_ack (by decide) hd hr, ← hsum, hlen]
  refine ⟨rfl, rfl, rfl, rfl, fun _ => rfl, fun _ => rfl, ?_, paddedChunk_eq o fw, rfl, rfl⟩
  rw [writeFrameBytes, offsetHi_eq_ofNat, offsetLo_eq_ofNat]

/-- Settles O30: the read frame's round trip, its block interpreted. -/
theorem readChunkReturnsThePayload : Obligations.ReadChunkReturnsThePayload := by
  intro p o block rest s h hd hr hlen
  refine ⟨_, _, exec_readChunk_idle h p o, rfl, ?_⟩
  rw [roundTrip_loaded_data hd hr hlen]
  exact ⟨rfl, rfl, fun _ => rfl, fun _ => rfl, rfl, rfl, rfl, rfl, rfl⟩

/-- Settles O31: a write past the image ends in its fault, every other command in the result of its round trip. -/
theorem everyCommandCompletes : Obligations.EveryCommandCompletes := by
  intro i s hi h
  rcases withinImage_or_outOfRange i with hin | ⟨p, o, fw, rfl, hl⟩
  · obtain ⟨acc, o, c, hexec⟩ := exec_call_idle h (.inl hi) (wf_of_isCommand hi) hin
    obtain ⟨v, hres, hret, hv⟩ := roundTrip_result_of_kind (callPort i) (callKind i) i.requestFrame
      (s.loaded (callKind i) acc o c i.requestFrame)
    obtain ⟨hphase, hport⟩ := roundTrip_ends (callPort i) (callKind i) i.requestFrame
      (s.loaded (callKind i) acc o c i.requestFrame)
    refine ⟨_, v, hexec, hphase, hport, hres, hret, fun hnot => ?_, fun p o hread => ?_⟩
    · rcases hv with hf | ⟨-, hb⟩ | ⟨hk, -⟩
      · exact .inr hf
      · exact .inl hb
      · cases i with
        | readChunk p o => exact absurd rfl (hnot p o)
        | frameRead _ _ => cases hi
        | _ => cases hk
    · subst hread
      rcases hv with hf | ⟨hk, -⟩ | ⟨-, d, hd, -⟩
      · exact .inr hf
      · exact absurd rfl hk
      · exact .inl ⟨d, hd⟩
  · exact ⟨_, _, exec_writeChunk_outOfRange h p o hl, rfl, rfl, rfl, rfl, fun _ => .inr ⟨_, rfl⟩, nofun⟩

/-- Settles O32: one clause for each way a round trip can fault, in the order of its phases. -/
theorem firstFaultInPhaseOrderWins : Obligations.FirstFaultInPhaseOrderWins := by
  refine ⟨fun p o fw s h hl => ⟨_, exec_writeChunk_outOfRange h p o hl, rfl, rfl, rfl, rfl, rfl, rfl⟩,
    fun i n p s h hi => ?_⟩
  obtain ⟨hcmd, hin, hport, hn⟩ : i.isCommand = true ∧ (∀ p o fw, i = .writeChunk p o fw → o.toNat ≤ fw.length) ∧
      callPort i = some p ∧ (callKind i).rxLen = n := by
    rcases hi with ⟨rfl, rfl⟩ | ⟨o, fw, rfl, hl, rfl⟩ | ⟨o, rfl, rfl⟩
    · exact ⟨rfl, nofun, rfl, rfl⟩
    · exact ⟨rfl, fun _ _ _ heq => by cases heq; exact hl, rfl, rfl⟩
    · exact ⟨rfl, nofun, rfl, rfl⟩
  have hpos : 0 < i.requestFrame.length := by
    rw [requestFrame_length (.inl hcmd) (wf_of_isCommand hcmd)]
    cases callKind i <;> decide
  obtain ⟨acc, o, c, hexec⟩ := exec_call_idle h (.inl hcmd) (wf_of_isCommand hcmd) hin
  refine ⟨fun ho => ⟨_, hexec, ?_⟩, fun k ho hw => ⟨_, sentBound k i.requestFrame.length, hexec, ?_⟩,
    fun ⟨ho, hw⟩ ha => ⟨_, hexec, ?_⟩⟩
  · rw [roundTrip_openFailed _ _ _ (s.loaded _ acc o c _) s.env rfl ho, hport]
    exact ⟨rfl, rfl, rfl, rfl, rfl⟩
  · rw [roundTrip_writeFailed _ _ _ k (s.loaded _ acc o c _) s.env rfl ho hw]
    exact ⟨rfl, sentBound_lt k _ hpos, rfl, rfl, rfl, rfl⟩
  · rw [roundTrip_timeout _ _ _ (s.loaded _ acc o c _) s.env rfl ho hw (hn ▸ ha), hn]
    exact ⟨rfl, rfl, rfl, fun _ => rfl, rfl, rfl⟩

/-- Settles O37: both runs are the same round trip, or both stop in BUILD before any draw. -/
theorem commandsDependOnOperandsAndDrawsOnly : Obligations.CommandsDependOnOperandsAndDrawsOnly := by
  intro i s t s' t' hi henv hs ht
  have hwf := wf_of_isCommand hi
  obtain ⟨hps, -⟩ := exec_call_next (.inl hi) hs
  obtain ⟨hpt, -⟩ := exec_call_next (.inl hi) ht
  rcases withinImage_or_outOfRange i with hin | ⟨p, o, fw, rfl, hl⟩
  · obtain ⟨acc, o, c, hexec⟩ := exec_call_idle hps (.inl hi) hwf hin
    obtain ⟨acc', o', c', hexec'⟩ := exec_call_idle hpt (.inl hi) hwf hin
    cases hexec.symm.trans hs
    cases hexec'.symm.trans ht
    exact roundTrip_sameCall (callKind i) i.requestFrame (s := s.loaded _ acc o c _) (s' := t.loaded _ acc' o' c' _)
      henv rfl (.inr rfl)
  · cases (exec_writeChunk_outOfRange hps p o hl).symm.trans hs
    cases (exec_writeChunk_outOfRange hpt p o hl).symm.trans ht
    exact ⟨rfl, henv, rfl, [], [], by simp⟩

/-- Settles O38: too few bytes end in the time-out, enough in the interpreter of the kind. -/
theorem responseLengthFollowsTheKind : Obligations.ResponseLengthFollowsTheKind := by
  intro i k sent n s h hd hi
  obtain ⟨hcmd, hin, rfl, rfl, rfl⟩ : i.isCommand = true ∧ (∀ p o fw, i = .writeChunk p o fw → o.toNat ≤ fw.length) ∧
      k = callKind i ∧ sent = k.txLen ∧ n = k.rxLen := by
    rcases hi with ⟨p, rfl, rfl, rfl, rfl⟩ | ⟨p, o, fw, rfl, hl, rfl, rfl, rfl⟩ | ⟨p, o, rfl, rfl, rfl, rfl⟩
    · exact ⟨rfl, nofun, rfl, rfl, rfl⟩
    · exact ⟨rfl, fun _ _ _ heq => by cases heq; exact hl, rfl, rfl, rfl⟩
    · exact ⟨rfl, nofun, rfl, rfl, rfl⟩
  obtain ⟨acc, o, c, hexec⟩ := exec_call_idle h (.inl hcmd) (wf_of_isCommand hcmd) hin
  have hlen := requestFrame_length (.inl hcmd) (wf_of_isCommand hcmd)
  generalize i.requestFrame = f at hexec hlen
  generalize callKind i = k at hexec hlen ⊢
  refine ⟨_, hexec, ?_⟩
  rcases Nat.lt_or_ge s.env.reply.length k.rxLen with ha | ha
  · rw [roundTrip_timeout _ _ _ (s.loaded _ acc o c _) s.env rfl hd.1 hd.2 ha]
    exact ⟨rfl, hlen, by simp [State.exchanged, State.loaded, hlen], fun hge => absurd ha (Nat.not_lt.mpr hge),
      fun _ => ⟨rfl, rfl⟩⟩
  · by_cases hk : k = .read
    · subst hk
      have hblock : (s.env.reply.take 132).length = 132 := List.length_take_of_le ha
      rw [roundTrip_loaded_data hd (List.take_append_drop 132 _).symm hblock, blockValue_take]
      exact ⟨rfl, hlen, by simp [hlen], fun _ => ⟨rfl, rfl, fun hne => absurd rfl hne, fun _ => rfl⟩,
        fun hlt => absurd hlt (Nat.not_lt.mpr ha)⟩
    · obtain ⟨r, rest, hr⟩ : ∃ r rest, s.env.reply = r :: rest :=
        List.exists_cons_of_length_pos (Nat.lt_of_lt_of_le (by cases k <;> decide) ha)
      have hrx : k.rxLen = 1 := by
        cases k with
        | erase => rfl
        | write => rfl
        | read => exact absurd rfl hk
      rw [roundTrip_loaded_ack hk hd hr, hr, hrx]
      exact ⟨rfl, hlen, by simp [hlen], fun _ => ⟨rfl, rfl, fun _ => by simp, fun hread => absurd hread hk⟩, by simp⟩

/-! ### Every call, a command or a request frame -/

/-- Settles O35: BUILD and then the phases of the round trip, or the fault in BUILD; outside IDLE the first test refuses. -/
theorem phaseNeverMovesBackwards : Obligations.PhaseNeverMovesBackwards := by
  refine ⟨fun i s t hi hexec => ?_, fun i s hi h => ?_, fun p f n s h => ⟨if_neg fun hp => h hp.1, if_neg h⟩,
    fun o fw s h => ⟨if_neg h, if_neg h, if_neg h⟩⟩
  · obtain ⟨-, ⟨port, k, acc, o, c, rfl, -⟩ | ⟨p, o, fw, rfl, hl, rfl⟩⟩ := exec_call_next hi hexec
    · obtain ⟨_, rfl, -, ⟨n, hle, hpos, htrail⟩, -⟩ :=
        roundTrip_passage port k i.requestFrame (s.loaded k acc o c i.requestFrame)
      exact ⟨n + 1, by omega, by omega, htrail⟩
    · exact ⟨1, by omega, by omega, rfl⟩
  · cases i with
    | erase _ => exact if_neg h
    | writeChunk _ _ _ => exact if_neg h
    | readChunk _ _ => exact if_neg h
    | _ => cases hi

/-- Settles O36: the draws and streams of one round trip, whose frame is the call's own request. -/
theorem oneExchangePerCall : Obligations.OneExchangePerCall := by
  intro i s t hi hexec
  obtain ⟨hreq, hclosed⟩ := requestFrame_isRequest i s t hi hexec
  obtain ⟨-, ⟨port, k, acc, o, c, rfl, hlen, -⟩ | ⟨p, o, fw, rfl, hl, rfl⟩⟩ := exec_call_next hi hexec
  · obtain ⟨_, rfl, henv, -, htxs, hrxs⟩ :=
      roundTrip_passage port k i.requestFrame (s.loaded k acc o c i.requestFrame)
    refine ⟨.inr henv, hreq, hclosed, htxs, hrxs.imp And.left fun ⟨hgot, henough, _⟩ => ?_⟩
    rw [awaited_of_kind _ k hreq hlen]
    exact ⟨henough, hgot⟩
  · exact ⟨.inl rfl, hreq, hclosed, ⟨0, by simp⟩, .inl rfl⟩

/-- Settles O39: a round trip with a whole response ends in its decoding phase, whose result is no fault. -/
theorem noReceivedByteCausesAFault : Obligations.NoReceivedByteCausesAFault := by
  intro i s t hi hd henough hin hexec f
  obtain ⟨hreq, -⟩ := requestFrame_isRequest i s t hi hexec
  obtain ⟨-, ⟨port, k, acc, o, c, rfl, hlen, -⟩ | ⟨p, o, fw, rfl, hl, -⟩⟩ := exec_call_next hi hexec
  · obtain ⟨v, hres, -, hv⟩ := roundTrip_result port k i.requestFrame (s.loaded k acc o c i.requestFrame)
    rw [awaited_of_kind _ k hreq hlen] at henough
    rw [hres]
    exact fun heq => hv hd.1 hd.2 henough f (Option.some.inj heq)
  · exact absurd hl (Nat.not_lt.mpr (hin p o fw rfl))

/-- Settles O55: a round trip drops its frames where it ends, and the fault in BUILD comes before any is loaded. -/
theorem noFrameIsRetainedAcrossCalls : Obligations.NoFrameIsRetainedAcrossCalls := by
  intro i s t hi hexec
  obtain ⟨-, ⟨port, k, acc, o, c, rfl, -⟩ | ⟨p, o, fw, rfl, hl, rfl⟩⟩ := exec_call_next hi hexec
  · obtain ⟨_, rfl, -, -, -, htx, hrx, -⟩ := roundTrip_frame port k i.requestFrame (s.loaded k acc o c i.requestFrame)
    obtain ⟨v, hres, hret, -⟩ := roundTrip_result port k i.requestFrame (s.loaded k acc o c i.requestFrame)
    obtain ⟨hphase, hport⟩ := roundTrip_ends port k i.requestFrame (s.loaded k acc o c i.requestFrame)
    exact ⟨fun _ => by rw [htx]; rfl, fun _ => by rw [hrx]; rfl, hport, hphase, v, hres, hret⟩
  · exact ⟨fun _ => rfl, fun _ => rfl, rfl, rfl, _, rfl, rfl⟩

/-! ### Request frames -/

/-- Settles O40: each frame's round trip starts from the latches as they are, since no builder runs. -/
theorem requestFramesRunTheirCall : Obligations.RequestFramesRunTheirCall := by
  intro s h hd
  refine ⟨fun r rest hr => ⟨_, exec_frameErase_idle h .fixed, ?_⟩,
    fun o pay ck r rest hp hr => ⟨_, exec_frameWrite_idle h o ck hp, ?_⟩,
    fun o ck block rest hr hlen => ⟨_, exec_frameRead_idle h o ck, ?_⟩⟩
  · rw [roundTrip_loaded_ack (by decide) hd hr]
    exact ⟨rfl, rfl, rfl, fun _ => rfl, fun _ => rfl, rfl⟩
  · rw [roundTrip_loaded_ack (by decide) hd hr, writeFrameBytes_length, hp]
    exact ⟨rfl, rfl, rfl, fun _ => rfl, fun _ => rfl, rfl⟩
  · rw [roundTrip_loaded_data hd hr hlen]
    exact ⟨rfl, rfl, rfl, fun _ => rfl, fun _ => rfl, rfl, rfl, rfl, rfl⟩

/-- Two calls from one state that show the same outside leave equal streams. -/
theorem SameCall.eq_of_equal_starts {s s₁ s₂ t u : State} (h : SameCall s₁ s₂ t u) (hx₁ : s₁.txs = s.txs) (hx₂ : s₂.txs = s.txs)
    (hr₁ : s₁.rxs = s.rxs) (hr₂ : s₂.rxs = s.rxs) :
    t.result = u.result ∧ t.txs = u.txs ∧ t.rxs = u.rxs ∧ t.env = u.env ∧ t.trail = u.trail := by
  obtain ⟨hres, henv, htrail, sent, got, ht, hu, ht', hu'⟩ := h
  exact ⟨hres, by rw [ht, hu, hx₁, hx₂], by rw [ht', hu', hr₁, hr₂], henv, htrail⟩

/-- From one state with a port that opens, the round trips of one frame agree, whatever the latches and the port name. -/
theorem roundTrip_loaded_eq {port port' : Option PortName} {s : State} (k : Kind) (f : List Byte) (acc acc' : Byte)
    (o o' : Offset) (c c' : Fin 129) (ho : s.env.openAnswer = true) :
    let t := roundTrip port k f (s.loaded k acc o c f)
    let u := roundTrip port' k f (s.loaded k acc' o' c' f)
    t.result = u.result ∧ t.txs = u.txs ∧ t.rxs = u.rxs ∧ t.env = u.env ∧ t.trail = u.trail :=
  (roundTrip_sameCall (s := s.loaded k acc o c f) (s' := s.loaded k acc' o' c' f) k f rfl rfl (.inl ho)).eq_of_equal_starts
    (s := s) rfl rfl rfl rfl

/-- Settles O41: the frame is the one the command builds, and both are its round trip. -/
theorem requestFrameEqualsItsCommand : Obligations.RequestFrameEqualsItsCommand := by
  intro p o fw s h ho hl
  refine ⟨⟨_, _, exec_frameErase_idle h .fixed, exec_erase_idle h p, ?_⟩,
    ⟨_, _, 0x52 + offsetHi o + offsetLo o, exec_frameRead_idle h o _, ?_, exec_readChunk_idle h p o, ?_⟩,
    ⟨_, _, paddedChunk o fw, writeSum o (paddedChunk o fw), exec_frameWrite_idle h o _ (paddedChunk_length o fw),
      (requestFrame_writeChunk p o fw).symm, exec_writeChunk_idle h p o hl, ?_⟩⟩
  · exact roundTrip_loaded_eq .erase _ _ _ _ _ _ _ ho
  · rw [closed_readFrameBytes, beq_self_eq_true]
  · exact roundTrip_loaded_eq .read _ _ _ _ _ _ _ ho
  · exact roundTrip_loaded_eq .write _ _ _ _ _ _ _ ho

/-- Settles O42: the phase is tested first, the payload's length before it. -/
theorem framesThatCannotRunAreRefused : Obligations.FramesThatCannotRunAreRefused := by
  intro o pay ck e0 e2 fl s
  refine ⟨fun h => ⟨if_neg h, if_neg h, fun hp => (if_pos hp).trans (if_neg h)⟩, fun hp => ⟨if_neg hp, ?_, ?_⟩⟩
  · have hlen := dataFrameBytes_length e0 0xFF e2 pay ck
    exact (if_neg fun h => hp (Nat.add_right_cancel (hlen.symm.trans h))).trans (by rw [hlen])
  · have hlen := dataFrameBytes_length e0 fl e2 pay ck
    exact (if_neg fun h => hp (Nat.add_right_cancel (hlen.symm.trans h))).trans (by rw [hlen])

end Sys2Proof.Machine
end

section
/-! PROOFS. What an instruction that answers a next state can have done, said once for all 25: `Answer` and `exec_answer`. -/

namespace Sys2Proof.Machine

/-! ### What the answer of a guarded operation tells of its state -/

section Inversion

variable {s t : State} {h : Handle} {p : PortName} {f : List Byte} {n : Nat}

theorem exec_writeAll_next (hexec : exec (.writeAll h f) s = .next t) :
    isRequest f = true ∧ s.portst = .opened ∧ s.phase = .sending ∧
      (t = { s with
          txs := s.txs ++ f, env := s.env.afterWrite, phase := .receiving, trail := s.trail ++ [.receiving]
          ret := .nothing } ∨
        ∃ m, t = ({ s with txs := s.txs ++ f.take m, env := s.env.afterWrite } : State).takeFault .writeFailed) := by
  have hguards : isRequest f = true ∧ s.portst = .opened ∧ s.phase = .sending := by
    change execWriteAll h f s = _ at hexec
    unfold execWriteAll at hexec
    split at hexec
    · split at hexec
      · split at hexec
        · exact ⟨‹_›, ‹_›, ‹_›⟩
        · cases hexec
      · cases hexec
    · cases hexec
  obtain ⟨hr, hc, hp⟩ := hguards
  refine ⟨hr, hc, hp, ?_⟩
  cases hw : s.env.writeAnswer with
  | complete => cases (exec_writeAll_ok hr hc hp hw).symm.trans hexec; exact .inl rfl
  | broken k => cases (exec_writeAll_broken hr hc hp hw).symm.trans hexec; exact .inr ⟨_, rfl⟩

theorem exec_readExact_next (hexec : exec (.readExact h n) s = .next t) :
    (n = 1 ∨ n = 132) ∧ s.portst = .opened ∧ s.phase = .receiving ∧
      ((∃ bs, bs.length = n ∧ t = { s with
          rxlen := n, rxbuf := Memory.ofBytes bs, rxs := s.rxs ++ bs, env := s.env.afterRead, phase := .decoding
          trail := s.trail ++ [.decoding], ret := .bytes bs }) ∨
        t = ({ s with rxbuf := [], env := s.env.afterRead } : State).takeFault (.readTimeout n)) := by
  have hguards : responseLengthOk n = true ∧ s.portst = .opened ∧ s.phase = .receiving := by
    change execReadExact h n s = _ at hexec
    unfold execReadExact at hexec
    split at hexec
    · split at hexec
      · split at hexec
        · exact ⟨‹_›, ‹_›, ‹_›⟩
        · cases hexec
      · cases hexec
    · cases hexec
  obtain ⟨hok, hc, hp⟩ := hguards
  have hn := (responseLengthOk_iff n).mp hok
  refine ⟨hn, hc, hp, ?_⟩
  rcases Nat.lt_or_ge s.env.arrival.length n with hr | hr
  · cases (exec_readExact_timeout hn hc hp hr).symm.trans hexec; exact .inr rfl
  · cases (exec_readExact_ok hn hc hp hr).symm.trans hexec
    exact .inl ⟨_, List.length_take_of_le hr, rfl⟩

theorem exec_openPort_next (hexec : exec (.openPort p) s = .next t) :
    s.phase = .idle ∧ s.portst = .closed ∧
      (t = { s with
          portst := .opened, settings := Config.serial, env := s.env.afterOpen, phase := .sending
          trail := [.opening, .sending], ret := .handle .current } ∨
        t = ({ s with env := s.env.afterOpen, trail := [.opening] } : State).takeFault (.openFailed (some p))) := by
  by_cases hguards : s.phase = .idle ∧ s.portst = .closed
  · obtain ⟨hp, hc⟩ := hguards
    refine ⟨hp, hc, ?_⟩
    cases ho : s.env.openAnswer with
    | true => cases (exec_openPort_ok hp hc ho).symm.trans hexec; exact .inl rfl
    | false => cases (exec_openPort_failed hp hc ho).symm.trans hexec; exact .inr rfl
  · have hrefused : exec (.openPort p) s = .refused .overlappingCall := if_neg hguards
    cases hrefused.symm.trans hexec

/-- An answered exchange is either complete, or took one of its three faults with some first bytes of the frame sent. -/
theorem exec_exchange_next (hexec : exec (.exchange p f n) s = .next t) :
    s.phase = .idle ∧ isRequest f = true ∧ n = awaited f ∧
      ((∃ bs, bs.length = n ∧ t = { s with
          settings := Config.serial, env := s.env.afterExchange, portst := .closed, rxlen := n
          rxbuf := Memory.ofBytes bs, rxs := s.rxs ++ bs, txs := s.txs ++ f
          trail := [.opening, .sending, .receiving, .idle], ret := .bytes bs }) ∨
        ∃ e st m rb tr flt, (st = s.settings ∨ st = Config.serial) ∧ (rb = s.rxbuf ∨ rb = []) ∧
          t = ({ s with env := e, settings := st, txs := s.txs ++ f.take m, rxbuf := rb, trail := tr } : State).takeFault
            flt) := by
  have hguards : s.phase = .idle ∧ isRequest f = true ∧ n = awaited f := by
    change execExchange p f n s = _ at hexec
    unfold execExchange at hexec
    split at hexec
    · split at hexec
      · split at hexec
        · exact ⟨‹_›, ‹_›, ‹_›⟩
        · cases hexec
      · cases hexec
    · cases hexec
  obtain ⟨hp, hr, hn⟩ := hguards
  refine ⟨hp, hr, hn, ?_⟩
  rcases Env.exchange_cases s.env n with ho | ⟨ho, j, hw⟩ | ⟨ho, hw, ha⟩ | ⟨ho, hw, ha⟩
  · cases (exec_exchange_openFailed hp hr hn ho).symm.trans hexec
    exact .inr ⟨_, s.settings, 0, s.rxbuf, _, _, .inl rfl, .inl rfl, by rw [List.take_zero, List.append_nil]⟩
  · cases (exec_exchange_broken hp hr hn ho hw).symm.trans hexec
    exact .inr ⟨_, Config.serial, _, s.rxbuf, _, _, .inr rfl, .inl rfl, rfl⟩
  · cases (exec_exchange_timeout hp hr hn ⟨ho, hw⟩ ha).symm.trans hexec
    exact .inr ⟨_, Config.serial, f.length, [], _, _, .inr rfl, .inr rfl, by rw [List.take_length]⟩
  · cases (exec_exchange_ok hp hr hn ⟨ho, hw⟩ ha).symm.trans hexec
    exact .inl ⟨_, List.length_take_of_le ha, rfl⟩

/-- An answered interpretation has written its latches and yielded a block's value. -/
theorem exec_interpretRead_next {block : List Byte} (hexec : exec (.interpretRead block) s = .next t) :
    ∃ acc m e d, t = { s with acc := acc, matchF := m, eodF := e, ret := .block d } := by
  by_cases hlen : block.length = 132
  · cases he : eodOf block with
    | true => cases (exec_interpretRead_sentinel hlen he s).symm.trans hexec; exact ⟨s.acc, s.matchF, _, _, rfl⟩
    | false => cases (exec_interpretRead_checked hlen he s).symm.trans hexec; exact ⟨_, _, _, _, rfl⟩
  · cases (interpretReadNeedsAWholeBlock block s hlen).symm.trans hexec

/-- A response frame that answers is interpreted as its block is (log 13). -/
theorem exec_interpretRead_of_decodeBlock {block : List Byte} (hexec : decodeBlock block s = .next t) :
    block.length = 132 ∧ exec (.interpretRead block) s = .next t := by
  by_cases hlen : block.length = 132
  · exact ⟨hlen, (decodeBlock_eq_interpretRead hlen s).symm.trans hexec⟩
  · have hrefused : decodeBlock block s = .refused (.frameLength block.length) := if_neg hlen
    cases hrefused.symm.trans hexec

end Inversion

/-- A builder's success: its frame is closed and has a request's length, and it wrote latches within its footprint. -/
def IsBuilt (i : Instr) (s t : State) : Prop :=
  ∃ k acc o c f, t = s.built k acc o c f ∧ i.footprint.acc = true ∧ i.footprint.tx = true ∧
    (i.footprint.ofs = false → o = s.ofs) ∧ (i.footprint.clen = false → c = s.clen) ∧
    requestLengthOk f.length = true ∧ closed f = true

/-- The phase test that every builder makes first (R25). -/
theorem idle_of_buildAlone {build : State → Flow (List Byte)} {s t : State} (hexec : buildAlone build s = .next t) :
    s.phase = .idle := (buildAlone_next build s t hexec).1

/-- A builder that answers has left its frame, or taken the fault of an offset past the image. -/
theorem exec_builder_next {i : Instr} {s t : State}
    (hi : i = .buildErase ∨ (∃ o fw, i = .buildWriteChunk o fw) ∨ ∃ o, i = .buildReadChunk o)
    (hexec : exec i s = .next t) : IsBuilt i s t ∨ ∃ flt, t = ({ s with trail := [.build] } : State).takeFault flt := by
  rcases hi with rfl | ⟨o, fw, rfl⟩ | ⟨o, rfl⟩
  · have hp := idle_of_buildAlone (build := fun s1 => .ok (buildEraseOn s1).1 (buildEraseOn s1).2) hexec
    cases (exec_buildErase_idle hp).symm.trans hexec
    exact .inl ⟨_, _, _, _, _, rfl, rfl, rfl, fun _ => rfl, fun _ => rfl, rfl, closed_eraseFrame⟩
  · have hp : s.phase = .idle := idle_of_buildAlone hexec
    rcases Nat.lt_or_ge fw.length o.toNat with hl | hl
    · cases (exec_buildWriteChunk_outOfRange o hp hl).symm.trans hexec
      exact .inr ⟨_, rfl⟩
    · cases (exec_buildWriteChunk_idle o hp hl).symm.trans hexec
      refine .inl ⟨_, _, _, _, _, rfl, rfl, rfl, nofun, nofun, ?_, ?_⟩
      · rw [writeFrameBytes_length, paddedChunk_length]; rfl
      · rw [closed_writeFrameBytes, beq_self_eq_true]
  · have hp := idle_of_buildAlone (build := fun s1 => .ok (buildReadOn o s1).1 (buildReadOn o s1).2) hexec
    cases (exec_buildReadChunk_idle o hp).symm.trans hexec
    refine .inl ⟨_, _, _, _, _, rfl, rfl, rfl, nofun, fun _ => rfl, rfl, ?_⟩
    rw [closed_readFrameBytes, beq_self_eq_true]

/-! ### The answers -/

/-- What an instruction that answers `t` from `s` has done: it wrote latches within its footprint, built a frame, moved
the session by one operation, made a call, or took a fault. -/
inductive Answer (s : State) : Instr → State → Prop
  /-- The Checksum Unit and the interpreters (40_checksum, 43_response). -/
  | latched {i : Instr} (acc : Byte) (m e k : Bool) (y : Yield)
      (hacc : i.footprint.acc = false → acc = s.acc) (hm : i.footprint.matchF = false → m = s.matchF)
      (he : i.footprint.eodF = false → e = s.eodF) (hk : i.footprint.ackF = false → k = s.ackF)
      (hy : ∀ r, y ≠ .result r) :
      Answer s i { s with acc := acc, matchF := m, eodF := e, ackF := k, ret := y }
  /-- A builder on its own, within the image (R101 to R103). -/
  | built {i : Instr} {t : State} (ht : IsBuilt i s t) : Answer s i t
  /-- `open`, with the port that opened (R111). -/
  | opened (p : PortName) (hc : s.portst = .closed) :
      Answer s (.openPort p) { s with
        portst := .opened, settings := Config.serial, env := s.env.afterOpen, phase := .sending
        trail := [.opening, .sending], ret := .handle .current }
  /-- `write_all`, with the whole frame on the line (R112). -/
  | wrote (h : Handle) (f : List Byte) (hr : isRequest f = true) (hc : s.portst = .opened) (hp : s.phase = .sending) :
      Answer s (.writeAll h f) { s with
        txs := s.txs ++ f, env := s.env.afterWrite, phase := .receiving, trail := s.trail ++ [.receiving]
        ret := .nothing }
  /-- `read_exact`, with as many bytes as it awaited (R114). -/
  | received (h : Handle) (bs : List Byte) (hlen : responseLengthOk bs.length = true) (hc : s.portst = .opened)
      (hp : s.phase = .receiving) :
      Answer s (.readExact h bs.length) { s with
        rxlen := bs.length, rxbuf := Memory.ofBytes bs, rxs := s.rxs ++ bs, env := s.env.afterRead, phase := .decoding
        trail := s.trail ++ [.decoding], ret := .bytes bs }
  /-- `close` (R117). -/
  | released (h : Handle) (tr : List Phase) :
      Answer s (.closePort h) { s with portst := .closed, phase := .idle, ret := .nothing, trail := tr }
  /-- `exchange`, through to its close (R119). -/
  | exchanged (p : PortName) (f bs : List Byte) (hr : isRequest f = true) (hlen : responseLengthOk bs.length = true)
      (hp : s.phase = .idle) :
      Answer s (.exchange p f bs.length) { s with
        settings := Config.serial, env := s.env.afterExchange, portst := .closed, rxlen := bs.length
        rxbuf := Memory.ofBytes bs, rxs := s.rxs ++ bs, txs := s.txs ++ f
        trail := [.opening, .sending, .receiving, .idle], ret := .bytes bs }
  /-- A fault of an operation on its own (60_exceptions R152). -/
  | faulted {i : Instr} (e : Env) (st : SerialSettings) (txs : List Byte) (rb : Memory) (tr : List Phase) (flt : CallFault)
      (hst : st = s.settings ∨ st = Config.serial)
      (htxs : txs = s.txs ∨ (i.footprint.send = true ∧ ∃ f m, isRequest f = true ∧ txs = s.txs ++ f.take m))
      (hrb : rb = s.rxbuf ∨ (i.footprint.rx = true ∧ rb = [])) :
      Answer s i (({ s with env := e, settings := st, txs := txs, rxbuf := rb, trail := tr } : State).takeFault flt)
  /-- A call that exchanged its frame (44_commands R133). -/
  | called {i : Instr} {t : State} (hi : i.isCommand = true ∨ i.isRequest = true) (hr : isRequest i.requestFrame = true)
      (ht : IsRoundTrip i s t) : Answer s i t
  /-- A write past the image (R144). -/
  | outOfRange (p : PortName) (o : Offset) (fw : List Byte) :
      Answer s (.writeChunk p o fw)
        (({ s with kind := .write, txbuf := [], rxbuf := [], trail := [.build] } : State).takeFault
          (.indexOutOfRange o fw.length))

section Latched

variable {i : Instr} {s : State} {y : Yield}

theorem answer_acc (hi : i.footprint.acc = true) (acc : Byte) (hy : ∀ r, y ≠ .result r) :
    Answer s i { s with acc := acc, ret := y } :=
  .latched acc s.matchF s.eodF s.ackF y (fun h => by simp [hi] at h) (fun _ => rfl) (fun _ => rfl) (fun _ => rfl) hy

theorem answer_ackF (hi : i.footprint.ackF = true) (k : Bool) (hy : ∀ r, y ≠ .result r) :
    Answer s i { s with ackF := k, ret := y } :=
  .latched s.acc s.matchF s.eodF k y (fun _ => rfl) (fun _ => rfl) (fun _ => rfl) (fun h => by simp [hi] at h) hy

/-- `interpret_read` writes ACC, MATCH and EOD (R126). -/
theorem answer_block (hi : i.footprint.acc = true ∧ i.footprint.matchF = true ∧ i.footprint.eodF = true)
    (acc : Byte) (m e : Bool) (hy : ∀ r, y ≠ .result r) :
    Answer s i { s with acc := acc, matchF := m, eodF := e, ret := y } := by
  obtain ⟨hacc, hm, he⟩ := hi
  exact .latched acc m e s.ackF y (fun h => by simp [hacc] at h) (fun h => by simp [hm] at h)
    (fun h => by simp [he] at h) (fun _ => rfl) hy

end Latched

theorem answer_of_call {i : Instr} {s t : State} (hi : i.isCommand = true ∨ i.isRequest = true)
    (hexec : exec i s = .next t) : Answer s i t := by
  obtain ⟨-, ht | ⟨p, o, fw, rfl, -, rfl⟩⟩ := exec_call_next hi hexec
  · exact .called hi (requestFrame_isRequest i s t hi hexec).1 ht
  · exact .outOfRange p o fw

theorem answer_of_builder {i : Instr} {s t : State}
    (hi : i = .buildErase ∨ (∃ o fw, i = .buildWriteChunk o fw) ∨ ∃ o, i = .buildReadChunk o)
    (hexec : exec i s = .next t) : Answer s i t := by
  rcases exec_builder_next hi hexec with ht | ⟨flt, rfl⟩
  · exact .built ht
  · exact .faulted s.env s.settings s.txs s.rxbuf [.build] flt (.inl rfl) (.inl rfl) (.inl rfl)

/-- Every next state of every instruction is one of the answers. -/
theorem exec_answer {i : Instr} {s t : State} (hexec : exec i s = .next t) : Answer s i t := by
  cases i with
  | frameErase _ => exact answer_of_call (.inr rfl) hexec
  | frameWrite _ _ _ => exact answer_of_call (.inr rfl) hexec
  | frameRead _ _ => exact answer_of_call (.inr rfl) hexec
  | erase _ => exact answer_of_call (.inl rfl) hexec
  | writeChunk _ _ _ => exact answer_of_call (.inl rfl) hexec
  | readChunk _ _ => exact answer_of_call (.inl rfl) hexec
  | frameAck =>
    cases (exec_interpretAck 0x06 s).symm.trans hexec
    exact answer_ackF rfl _ nofun
  | frameNack r =>
    cases (exec_interpretAck r s).symm.trans hexec
    exact answer_ackF rfl _ nofun
  | interpretAck r =>
    cases (exec_interpretAck r s).symm.trans hexec
    exact answer_ackF rfl _ nofun
  | frameEod e0 e2 p ck =>
    obtain ⟨hlen, hexec⟩ := exec_interpretRead_of_decodeBlock hexec
    cases (exec_interpretRead_sentinel hlen rfl s).symm.trans hexec
    exact .latched s.acc s.matchF _ s.ackF _ (fun _ => rfl) (fun _ => rfl) nofun (fun _ => rfl) nofun
  | frameData e0 fl e2 p ck =>
    obtain ⟨acc, m, e, d, rfl⟩ := exec_interpretRead_next (exec_interpretRead_of_decodeBlock hexec).2
    exact answer_block ⟨rfl, rfl, rfl⟩ acc m e nofun
  | interpretRead block =>
    obtain ⟨acc, m, e, d, rfl⟩ := exec_interpretRead_next hexec
    exact answer_block ⟨rfl, rfl, rfl⟩ acc m e nofun
  | csumClr =>
    cases (exec_csumClr s).symm.trans hexec
    exact answer_acc rfl _ nofun
  | csumAdd b =>
    cases (exec_csumAdd b s).symm.trans hexec
    exact answer_acc rfl _ nofun
  | compute f =>
    by_cases hne : f = []
    · subst hne; cases hexec
    · cases (exec_compute_of_ne_nil hne s).symm.trans hexec
      exact answer_acc rfl _ nofun
  | verify f =>
    by_cases hne : f = []
    · subst hne; cases hexec
    · cases (exec_verify_of_ne_nil hne s).symm.trans hexec
      exact .latched _ _ s.eodF s.ackF _ nofun nofun (fun _ => rfl) (fun _ => rfl) nofun
  | withChecksumApplied b =>
    by_cases hne : b = []
    · subst hne; cases hexec
    · cases (execWithChecksumApplied_of_ne_nil hne s).symm.trans hexec
      exact answer_acc rfl _ nofun
  | buildErase => exact answer_of_builder (.inl rfl) hexec
  | buildWriteChunk o fw => exact answer_of_builder (.inr (.inl ⟨o, fw, rfl⟩)) hexec
  | buildReadChunk o => exact answer_of_builder (.inr (.inr ⟨o, rfl⟩)) hexec
  | openPort p =>
    obtain ⟨-, hc, rfl | rfl⟩ := exec_openPort_next hexec
    · exact .opened p hc
    · exact .faulted _ s.settings s.txs s.rxbuf _ _ (.inl rfl) (.inl rfl) (.inl rfl)
  | writeAll h f =>
    obtain ⟨hr, hc, hp, rfl | ⟨m, rfl⟩⟩ := exec_writeAll_next hexec
    · exact .wrote h f hr hc hp
    · exact .faulted _ s.settings _ s.rxbuf s.trail _ (.inl rfl) (.inr ⟨rfl, f, m, hr, rfl⟩) (.inl rfl)
  | readExact h n =>
    obtain ⟨hn, hc, hp, ⟨bs, rfl, rfl⟩ | rfl⟩ := exec_readExact_next hexec
    · exact .received h bs ((responseLengthOk_iff _).mpr hn) hc hp
    · exact .faulted _ s.settings s.txs _ s.trail _ (.inl rfl) (.inl rfl) (.inr ⟨rfl, rfl⟩)
  | closePort h =>
    cases (exec_closePort h s).symm.trans hexec
    exact .released h _
  | exchange p f n =>
    obtain ⟨hp, hr, hn, ⟨bs, rfl, rfl⟩ | ⟨e, st, m, rb, tr, flt, hst, hrb, rfl⟩⟩ := exec_exchange_next hexec
    · exact .exchanged p f bs hr (hn ▸ responseLengthOk_awaited f) hp
    · exact .faulted e st _ rb tr flt hst (.inr ⟨rfl, f, m, hr, rfl⟩) (hrb.imp id fun h => ⟨rfl, h⟩)

/-! ### What a call leaves -/

/-- Every call loads a frame, sends and receives; one that does not write ACKF writes MATCH (10_state R16, R18). -/
theorem footprint_of_call {i : Instr} (hi : i.isCommand = true ∨ i.isRequest = true) :
    i.footprint.tx = true ∧ i.footprint.rx = true ∧ i.footprint.send = true ∧
      (i.footprint.ackF = false → i.footprint.matchF = true) := by
  cases i <;> simp [Instr.isCommand, Instr.isRequest, Instr.footprint] at hi ⊢

section Call

variable {i : Instr} {s t : State} (ht : IsRoundTrip i s t)
include ht

/-- A call ends idle with the port closed and its own result, whose block, if it is one, is whole (R24, R133). -/
theorem IsRoundTrip.ends :
    t.phase = .idle ∧ t.portst = .closed ∧ t.trail.getLast? = some .idle ∧
      ∃ v, t.result = some v ∧ t.ret = .result v ∧ ∀ p, v = .data (some p) → p.length = 128 := by
  obtain ⟨port, k, acc, o, c, rfl, -⟩ := ht
  obtain ⟨hphase, hport⟩ := roundTrip_ends port k i.requestFrame (s.loaded k acc o c i.requestFrame)
  obtain ⟨v, hres, hret, hv⟩ := roundTrip_result_of_kind port k i.requestFrame (s.loaded k acc o c i.requestFrame)
  obtain ⟨u, hu, -, ⟨n, -, -, htrail⟩, -⟩ :=
    roundTrip_passage port k i.requestFrame (s.loaded k acc o c i.requestFrame)
  refine ⟨hphase, hport, by rw [hu, htrail, List.getLast?_concat], v, hres, hret, fun p hp => ?_⟩
  rcases hv with ⟨f, rfl⟩ | ⟨-, b, rfl⟩ | ⟨-, d, rfl, hd⟩
  · cases hp
  · cases hp
  · cases hp; exact hd p rfl

/-- A call sends its request, or only the first bytes of it, and takes nothing back (R51, R110). -/
theorem IsRoundTrip.streams : ∃ m got, t.txs = s.txs ++ i.requestFrame.take m ∧ t.rxs = s.rxs ++ got := by
  obtain ⟨port, k, acc, o, c, ht, -⟩ := ht
  obtain ⟨u, hu, -, -, ⟨m, htxs⟩, hrxs⟩ :=
    roundTrip_passage port k i.requestFrame (s.loaded k acc o c i.requestFrame)
  obtain rfl : t = u := ht.trans hu
  rcases hrxs with ⟨hrxs, -⟩ | ⟨hrxs, -⟩
  · exact ⟨m, [], htxs, hrxs.trans (List.append_nil _).symm⟩
  · exact ⟨m, _, htxs, hrxs⟩

/-- A call leaves its buffers empty, and in the length latches legal lengths (R25, R26; log 7). -/
theorem IsRoundTrip.buffers :
    t.txbuf = [] ∧ t.rxbuf = [] ∧ requestLengthOk t.txlen = true ∧
      (t.rxlen = s.rxlen ∨ responseLengthOk t.rxlen = true) := by
  obtain ⟨port, k, acc, o, c, ht, hlen, -⟩ := ht
  obtain ⟨u, hu, -, -, -, hrxs⟩ := roundTrip_passage port k i.requestFrame (s.loaded k acc o c i.requestFrame)
  obtain rfl : t = u := ht.trans hu
  obtain ⟨u, hu, -, -, -, htx, hrx, htxlen, -⟩ :=
    roundTrip_frame port k i.requestFrame (s.loaded k acc o c i.requestFrame)
  obtain rfl : t = u := ht.trans hu
  have htxlen : t.txlen = k.txLen := htxlen.trans hlen
  refine ⟨htx, hrx, ?_, hrxs.imp And.right fun ⟨_, _, hrxlen⟩ => ?_⟩
  · rw [htxlen]; cases k <;> rfl
  · rw [hrxlen]; cases k <;> rfl

/-- A call applies the hardwired settings, or opens no port (R20, R111). -/
theorem IsRoundTrip.settings : t.settings = s.settings ∨ t.settings = Config.serial := by
  obtain ⟨port, k, acc, o, c, ht, -⟩ := ht
  obtain ⟨u, hu, -, -, -, -, -, -, -, hst, -⟩ :=
    roundTrip_frame port k i.requestFrame (s.loaded k acc o c i.requestFrame)
  obtain rfl : t = u := ht.trans hu
  exact hst

/-- A call writes ACC, OFS and CLEN where its builder does, and the flags of its own interpreter; never the queue. -/
theorem IsRoundTrip.latches (hi : i.isCommand = true ∨ i.isRequest = true) :
    (i.footprint.acc = false → t.acc = s.acc) ∧ (i.footprint.matchF = false → t.matchF = s.matchF) ∧
      (i.footprint.eodF = false → t.eodF = s.eodF) ∧ (i.footprint.ackF = false → t.ackF = s.ackF) ∧
      (i.footprint.ofs = false → t.ofs = s.ofs) ∧ (i.footprint.clen = false → t.clen = s.clen) ∧
      t.pending = s.pending := by
  obtain ⟨port, k, acc, o, c, ht, -, -, hacc, ho, hc, hnotRead, hread⟩ := ht
  obtain ⟨-, -, -, hflags⟩ := footprint_of_call hi
  obtain ⟨u, hu, hofs, hclen, -, -, -, -, hpending, -, hkeep, hkeepRead⟩ :=
    roundTrip_frame port k i.requestFrame (s.loaded k acc o c i.requestFrame)
  obtain rfl : t = u := ht.trans hu
  have hother : i.footprint.acc = false ∨ i.footprint.matchF = false ∨ i.footprint.eodF = false → k ≠ .read := by
    intro h hk
    obtain ⟨-, ha, hm, he⟩ := hread hk
    simp [ha, hm, he] at h
  refine ⟨fun h => ?_, fun h => ?_, fun h => ?_, fun h => ?_, fun h => hofs.trans (ho h), fun h => hclen.trans (hc h),
    hpending⟩
  · exact (hkeep (hother (.inl h))).1.trans (hacc h)
  · exact (hkeep (hother (.inr (.inl h)))).2.1
  · exact (hkeep (hother (.inr (.inr h)))).2.2
  · have hk : k = .read := by
      by_contra hk
      obtain ⟨hm, -⟩ := hnotRead hk
      cases hm.symm.trans (hflags h)
    exact hkeepRead hk

end Call

end Sys2Proof.Machine
end

section
/-! PROOFS. The whole-machine rules, each by the answers of `exec_answer`; reset and the machine's step (10_state). -/

namespace Sys2Proof.Machine

/-! ### Whole-machine rules -/

/-- Settles O18: a builder's answer is its frame, which is closed, or a fault, which yields no bytes. -/
theorem everyBuiltFrameVerifies : Obligations.EveryBuiltFrameVerifies := by
  intro i s t f hi hexec hret
  obtain ⟨hlen, hclosed⟩ : requestLengthOk f.length = true ∧ closed f = true := by
    rcases exec_builder_next hi hexec with ⟨k, acc, o, c, g, rfl, -, -, -, -, hlen, hg⟩ | ⟨flt, rfl⟩
    · cases hret; exact ⟨hlen, hg⟩
    · cases hret
  refine ⟨(requestLengthOk_iff _).mp hlen, ?_, _, exec_verify_of_ne_nil (closed_ne_nil hclosed) t, hclosed⟩
  rw [← covered_eq_take]
  exact beq_iff_eq.mp hclosed

/-- Settles O33: every fault is taken by `State.takeFault`, and no operation that succeeds yields one. -/
theorem faultEntryClosesAndIdles : Obligations.FaultEntryClosesAndIdles := by
  intro i s t f hexec hret
  cases exec_answer hexec with
  | latched _ _ _ _ y _ _ _ _ hy => exact absurd hret (hy _)
  | faulted => cases hret; exact ⟨rfl, rfl, rfl, List.getLast?_concat⟩
  | outOfRange => cases hret; exact ⟨rfl, rfl, rfl, rfl⟩
  | built ht => obtain ⟨k, acc, o, c, g, rfl, -⟩ := ht; cases hret
  | called _ _ ht =>
    obtain ⟨hphase, hport, htrail, v, hres, hv, -⟩ := ht.ends
    cases hv.symm.trans hret
    exact ⟨hres, hport, hphase, htrail⟩
  | _ => cases hret

/-- Settles O34: a fault leaves IDLE, from which an erase runs whatever the latches hold. -/
theorem faultIsNotSticky : Obligations.FaultIsNotSticky := by
  intro i s t f p rest hexec hret hd hr
  obtain ⟨-, -, hidle, -⟩ := faultEntryClosesAndIdles i s t f hexec hret
  obtain ⟨u, hu, hres, -⟩ := eraseReportsTheAcknowledgement p 0x06 rest t hidle hd hr
  exact ⟨u, hu, hres⟩

/-- Settles O44: a call writes ACC, OFS and CLEN where its builder does, and the flags of its own interpreter. -/
theorem latchesAreWrittenOnlyByTheirOperations : Obligations.LatchesAreWrittenOnlyByTheirOperations := by
  intro i s t hexec
  cases exec_answer hexec with
  | latched acc m e k y hacc hm he hk => exact ⟨hacc, hm, he, hk, fun _ => rfl, fun _ => rfl, rfl⟩
  | built ht =>
    obtain ⟨k, acc, o, c, f, rfl, hacc, -, ho, hc, -⟩ := ht
    exact ⟨fun h => by simp [hacc] at h, fun _ => rfl, fun _ => rfl, fun _ => rfl, ho, hc, rfl⟩
  | called hi _ ht => exact ht.latches hi
  | _ => exact ⟨fun _ => rfl, fun _ => rfl, fun _ => rfl, fun _ => rfl, fun _ => rfl, fun _ => rfl, rfl⟩

/-- Settles O45: outside the builders and the calls TXBUF stands; outside the calls and the receiving operations RXBUF. -/
theorem buffersAreWrittenOnlyByTheirInstructions : Obligations.BuffersAreWrittenOnlyByTheirInstructions := by
  intro i s t hexec
  cases exec_answer hexec with
  | built ht =>
    obtain ⟨k, acc, o, c, f, rfl, -, htx, -⟩ := ht
    exact ⟨fun h => by simp [htx] at h, fun _ => ⟨fun _ => rfl, rfl⟩⟩
  | received => exact ⟨fun _ => ⟨fun _ => rfl, rfl, rfl⟩, nofun⟩
  | exchanged => exact ⟨fun _ => ⟨fun _ => rfl, rfl, rfl⟩, nofun⟩
  | faulted _ _ _ rb _ _ _ _ hrb =>
    refine ⟨fun _ => ⟨fun _ => rfl, rfl, rfl⟩, fun h => ?_⟩
    obtain rfl : rb = s.rxbuf := hrb.resolve_right fun hrx => by simp [hrx.1] at h
    exact ⟨fun _ => rfl, rfl⟩
  | called hi =>
    obtain ⟨htx, hrx, -⟩ := footprint_of_call hi
    exact ⟨fun h => by simp [htx] at h, fun h => by simp [hrx] at h⟩
  | outOfRange => exact ⟨nofun, nofun⟩
  | _ => exact ⟨fun _ => ⟨fun _ => rfl, rfl, rfl⟩, fun _ => ⟨fun _ => rfl, rfl⟩⟩

/-- Settles O46: a builder's frame is closed, a call drops its own, and nothing else writes TXBUF. -/
theorem theBuiltFrameStaysClosed : Obligations.TheBuiltFrameStaysClosed := by
  refine ⟨.inl rfl, fun i s t hs hexec => ?_⟩
  cases exec_answer hexec with
  | built ht =>
    obtain ⟨k, acc, o, c, f, rfl, -, -, -, -, -, hf⟩ := ht
    exact .inr ⟨f, rfl, hf⟩
  | called _ _ ht => exact .inl ht.buffers.1
  | outOfRange => exact .inl rfl
  | _ => exact hs

/-- Settles O47: each answer appends to the streams what it sent and what it consumed. -/
theorem streamsOnlyGrow : Obligations.StreamsOnlyGrow := by
  intro i s t hexec
  cases exec_answer hexec with
  | wrote _ f => exact ⟨f, [], rfl, (List.append_nil _).symm, nofun, fun _ => rfl⟩
  | received _ bs => exact ⟨[], bs, (List.append_nil _).symm, rfl, fun _ => rfl, nofun⟩
  | exchanged _ f bs => exact ⟨f, bs, rfl, rfl, nofun, nofun⟩
  | faulted _ _ txs _ _ _ _ htxs =>
    rcases htxs with rfl | ⟨hsend, f, m, -, rfl⟩
    · exact ⟨[], [], (List.append_nil _).symm, (List.append_nil _).symm, fun _ => rfl, fun _ => rfl⟩
    · exact ⟨f.take m, [], rfl, (List.append_nil _).symm, fun h => by simp [hsend] at h, fun _ => rfl⟩
  | called hi _ ht =>
    obtain ⟨-, hrx, hsend, -⟩ := footprint_of_call hi
    obtain ⟨m, got, htxs, hrxs⟩ := ht.streams
    exact ⟨_, got, htxs, hrxs, fun h => by simp [hsend] at h, fun h => by simp [hrx] at h⟩
  | built ht =>
    obtain ⟨k, acc, o, c, f, rfl, -⟩ := ht
    exact ⟨[], [], (List.append_nil _).symm, (List.append_nil _).symm, fun _ => rfl, fun _ => rfl⟩
  | _ => exact ⟨[], [], (List.append_nil _).symm, (List.append_nil _).symm, fun _ => rfl, fun _ => rfl⟩

/-- Settings are written by an open alone, with the hardwired ones (R20, R111). -/
theorem settings_of_exec {i : Instr} {s t : State} (hexec : exec i s = .next t) :
    t.settings = s.settings ∨ t.settings = Config.serial := by
  cases exec_answer hexec with
  | opened => exact .inr rfl
  | exchanged => exact .inr rfl
  | faulted _ _ _ _ _ _ hst => exact hst
  | called _ _ ht => exact ht.settings
  | built ht => obtain ⟨k, acc, o, c, f, rfl, -⟩ := ht; exact .inl rfl
  | _ => exact .inl rfl

/-- Settles O48: an open applies the settings that already stand. -/
theorem serialSettingsAreHardwired : Obligations.SerialSettingsAreHardwired :=
  ⟨rfl, rfl, rfl, fun _ _ _ hs hexec => (settings_of_exec hexec).elim (·.trans hs) id⟩

/-- The requests of the block, by their first byte and length (30_encoding R71, R73, R74). -/
theorem isRequest_shape {f : List Byte} (h : isRequest f = true) :
    f = [0x39, 0x00, 0x00, 0x55, 0x8E] ∨ (f.head? = some 0x57 ∧ f.length = 132) ∨
      (f.head? = some 0x52 ∧ f.length = 4) := by
  rcases (isRequest_iff f).mp h with rfl | ⟨o, p, ck, hp, rfl⟩ | ⟨o, ck, rfl⟩
  · exact .inl rfl
  · exact .inr (.inl ⟨rfl, by rw [writeFrameBytes_length, hp]⟩)
  · exact .inr (.inr ⟨rfl, rfl⟩)

/-- Settles O57: what is sent is an operand that passed `isRequest`, or a call's own request, whole or cut short. -/
theorem onlyRequestsAreSent : Obligations.OnlyRequestsAreSent := by
  intro i s t hexec
  cases exec_answer hexec with
  | wrote _ f hr => exact .inr ⟨f, f.length, isRequest_shape hr, by rw [List.take_length]⟩
  | exchanged _ f _ hr => exact .inr ⟨f, f.length, isRequest_shape hr, by rw [List.take_length]⟩
  | faulted _ _ _ _ _ _ _ htxs => exact htxs.imp id fun ⟨_, f, m, hr, h⟩ => ⟨f, m, isRequest_shape hr, h⟩
  | called _ hr ht =>
    obtain ⟨m, -, htxs, -⟩ := ht.streams
    exact .inr ⟨_, m, isRequest_shape hr, htxs⟩
  | built ht => obtain ⟨k, acc, o, c, f, rfl, -⟩ := ht; exact .inl rfl
  | _ => exact .inl rfl

/-- A write_all out of its turn is refused, on one ground or another (R119, U20). -/
theorem exec_writeAll_refused (h : Handle) (f : List Byte) {s : State} (hp : s.phase ≠ .sending) :
    ∃ r, exec (.writeAll h f) s = .refused r := by
  by_cases hr : isRequest f = true
  · by_cases hc : s.portst = .opened
    · exact ⟨_, (if_pos hr).trans ((if_pos hc).trans (if_neg hp))⟩
    · exact ⟨_, (if_pos hr).trans (if_neg hc)⟩
  · exact ⟨_, if_neg hr⟩

/-- A read_exact out of its turn is refused, on one ground or another (R119, U20). -/
theorem exec_readExact_refused (h : Handle) (n : Nat) {s : State} (hp : s.phase ≠ .receiving) :
    ∃ r, exec (.readExact h n) s = .refused r := by
  by_cases hn : responseLengthOk n = true
  · by_cases hc : s.portst = .opened
    · exact ⟨_, (if_pos hn).trans ((if_pos hc).trans (if_neg hp))⟩
    · exact ⟨_, (if_pos hn).trans (if_neg hc)⟩
  · exact ⟨_, if_neg hn⟩

theorem ne_opened_of_closed {s : State} (h : s.portst = .closed) : s.portst ≠ .opened := by
  rw [h]; nofun

/-- Settles O56: of the answers only three leave the port open and move PHASE, each out of its own phase. -/
theorem oneFramePerHandle : Obligations.OneFramePerHandle := by
  refine ⟨fun i s t hexec hopen => ?_, fun h f g n m s t => ⟨fun hexec => ?_, fun hexec => ?_⟩⟩
  · cases exec_answer hexec with
    | latched => exact ⟨fun hc => absurd hopen (ne_opened_of_closed hc), fun _ => .inl ⟨rfl, rfl, rfl⟩⟩
    | built ht =>
      obtain ⟨k, acc, o, c, f, rfl, -⟩ := ht
      exact ⟨fun hc => absurd hopen (ne_opened_of_closed hc), fun _ => .inl ⟨rfl, rfl, rfl⟩⟩
    | opened p hc => exact ⟨fun _ => ⟨⟨p, rfl⟩, rfl, rfl, rfl⟩, fun ho => absurd ho (ne_opened_of_closed hc)⟩
    | wrote h f _ ho hp =>
      exact ⟨fun hc => absurd ho (ne_opened_of_closed hc), fun _ => .inr (.inl ⟨hp, rfl, rfl, h, f, rfl⟩)⟩
    | received h bs _ ho hp =>
      exact ⟨fun hc => absurd ho (ne_opened_of_closed hc), fun _ => .inr (.inr ⟨hp, rfl, rfl, h, _, rfl⟩)⟩
    | called _ _ ht => exact absurd hopen (ne_opened_of_closed ht.ends.2.1)
    | _ => cases hopen
  · obtain ⟨-, ho, hp, ht⟩ := exec_writeAll_next hexec
    have hmoved : t.phase ≠ .sending := by rcases ht with rfl | ⟨_, rfl⟩ <;> nofun
    exact ⟨ho, hp, exec_writeAll_refused h g hmoved⟩
  · obtain ⟨-, ho, hp, ht⟩ := exec_readExact_next hexec
    have hmoved : t.phase ≠ .sending ∧ t.phase ≠ .receiving := by
      rcases ht with ⟨_, _, rfl⟩ | rfl <;> exact ⟨nofun, nofun⟩
    exact ⟨ho, hp, exec_writeAll_refused h g hmoved.1, exec_readExact_refused h m hmoved.2⟩

/-! ### The invariant -/

/-- What a round trip leaves meets the invariant, whatever the environment answers. -/
theorem IsRoundTrip.inv {i : Instr} {s t : State} (ht : IsRoundTrip i s t) (hs : s.Inv) : t.Inv := by
  obtain ⟨hphase, hport, -, v, hres, -, hblock⟩ := ht.ends
  obtain ⟨htx, hrx, htxlen, hrxlen⟩ := ht.buffers
  refine ⟨.inl ⟨hphase, hport⟩, .inl htx, .inl hrx, htxlen, ?_, ht.settings.elim (·.trans hs.settings) id,
    fun p hp => hblock p (Option.some.inj (hres.symm.trans hp))⟩
  rcases hrxlen with h | h
  · rw [h]; exact hs.rxlen
  · exact h

/-- Taking a fault keeps what it does not write, closes the port and reports no block (R152). -/
theorem State.Inv.takeFault {s : State} (f : CallFault) (htx : s.txSound) (hrx : s.rxSound)
    (htxlen : requestLengthOk s.txlen = true) (hrxlen : responseLengthOk s.rxlen = true)
    (hst : s.settings = Config.serial) : (s.takeFault f).Inv :=
  ⟨.inl ⟨rfl, rfl⟩, htx, hrx, htxlen, hrxlen, hst, nofun⟩

/-- Every instruction that answers keeps the invariant. -/
theorem exec_keeps_inv {i : Instr} {s t : State} (hs : s.Inv) (hexec : exec i s = .next t) : t.Inv := by
  have hidle : s.phase = .idle → s.portst = .closed := fun hp =>
    hs.port.elim And.right fun h => by simp [hp] at h
  cases exec_answer hexec with
  | latched => exact ⟨hs.port, hs.tx, hs.rx, hs.txlen, hs.rxlen, hs.settings, hs.result⟩
  | built ht =>
    obtain ⟨k, acc, o, c, f, rfl, -, -, -, -, hlen, -⟩ := ht
    exact ⟨hs.port, .inr ⟨f, rfl, rfl⟩, hs.rx, hlen, hs.rxlen, hs.settings, hs.result⟩
  | opened => exact ⟨.inr ⟨.inl rfl, rfl⟩, hs.tx, hs.rx, hs.txlen, hs.rxlen, rfl, hs.result⟩
  | wrote _ _ _ ho => exact ⟨.inr ⟨.inr (.inl rfl), ho⟩, hs.tx, hs.rx, hs.txlen, hs.rxlen, hs.settings, hs.result⟩
  | received _ bs hlen ho =>
    exact ⟨.inr ⟨.inr (.inr rfl), ho⟩, hs.tx, .inr ⟨bs, rfl, rfl⟩, hs.txlen, hlen, hs.settings, hs.result⟩
  | released => exact ⟨.inl ⟨rfl, rfl⟩, hs.tx, hs.rx, hs.txlen, hs.rxlen, hs.settings, hs.result⟩
  | exchanged _ _ bs _ hlen hp => exact ⟨.inl ⟨hp, rfl⟩, hs.tx, .inr ⟨bs, rfl, rfl⟩, hs.txlen, hlen, rfl, hs.result⟩
  | faulted _ _ _ _ _ flt hst _ hrb =>
    refine .takeFault flt hs.tx ?_ hs.txlen hs.rxlen (hst.elim (·.trans hs.settings) id)
    rcases hrb with rfl | ⟨-, rfl⟩
    · exact hs.rx
    · exact .inl rfl
  | called _ _ ht => exact ht.inv hs
  | outOfRange => exact .takeFault _ (.inl rfl) (.inl rfl) hs.txlen hs.rxlen hs.settings

/-! ### Reset and the machine's step -/

/-- Settles O1: the fields of the reset state. -/
theorem resetIsTheCallEntryState : Obligations.ResetIsTheCallEntryState :=
  ⟨rfl, rfl, rfl, rfl, fun _ => rfl, fun _ => rfl⟩

/-- Settles O2: both buffers are empty, and log 5's lengths are those of an erase. -/
theorem resetMeetsTheInvariant : Obligations.ResetMeetsTheInvariant :=
  ⟨.inl ⟨rfl, rfl⟩, .inl rfl, .inl rfl, rfl, rfl, rfl, nofun⟩

theorem step_of_nil {s : State} (h : s.pending = []) : step s = .next s := by
  simp only [step, h]

theorem step_of_ok {s : State} {p : Pending} {rest : List Pending} {i : Instr} (h : s.pending = p :: rest)
    (hi : p.instr = .ok i) : step s = exec i { s with pending := rest } := by
  simp only [step, h, hi, State.dequeue, List.tail_cons]

theorem step_of_error {s : State} {p : Pending} {rest : List Pending} {e : DecodeError} (h : s.pending = p :: rest)
    (he : p.instr = .error e) : step s = .refused (.undecodable e) := by
  simp only [step, h, he]

/-- Settles O4: the head of the queue is an operation, a frame that decodes, or bytes that are none. -/
theorem stepRunsTheHeadOfTheQueue : Obligations.StepRunsTheHeadOfTheQueue :=
  ⟨fun _ _ _ _ _ h hi _ => step_of_ok h hi, fun _ _ _ _ _ h he => step_of_error h he, fun _ _ _ h => step_of_ok h rfl,
    fun _ => step_of_nil⟩

/-- Settles O5: the word's frame decodes to what `decodeTableWord` reads, and the queue behind it is the old one. -/
theorem fetchWordRunsNext : Obligations.FetchWordRunsNext := by
  intro s nbits w i h
  have hi : (tablePending nbits w).instr = .ok i := by
    unfold decodeTableWord at h
    split at h
    · rename_i j hj
      cases h
      exact hj
    · cases h
  exact step_of_ok rfl hi

/-- Settles O3: a step idles or is one `exec` on the state with the head of the queue taken, which no part of the
invariant reads. -/
theorem stepKeepsTheInvariant : Obligations.StepKeepsTheInvariant := by
  intro s t hs hstep
  cases hp : s.pending with
  | nil => cases (step_of_nil hp).symm.trans hstep; exact hs
  | cons p rest =>
    cases hi : p.instr with
    | error e => cases (step_of_error hp hi).symm.trans hstep
    | ok i =>
      have hrest : ({ s with pending := rest } : State).Inv :=
        ⟨hs.port, hs.tx, hs.rx, hs.txlen, hs.rxlen, hs.settings, hs.result⟩
      exact exec_keeps_inv hrest ((step_of_ok hp hi).symm.trans hstep)

end Sys2Proof.Machine
end
